-- ==== Sys2Proof/Word.lean ====
section
/-! DEFINITION. The word types of the LA4 RTU engine (spec 00 R10, R12; 30 R120). -/

namespace Sys2Proof

/-- A byte of a frame (00 R12). -/
abbrev Byte := BitVec 8

/-- A slave register, a register address or a CRC value (00 R10). -/
abbrev Word := BitVec 16

/-- A counter or a 32-bit host register (00 R10). -/
abbrev Word32 := BitVec 32

/-- A command word (30 R120). -/
abbrev CmdWord := BitVec 64

end Sys2Proof
end

