-- ==== Sys2Proof/Syntax.lean ====
section
/-! DEFINITION. The five commands (30 R121 to R125, spec/opcode_table.json), their operands as the fields of the
command word give them (30 R126). -/

namespace Sys2Proof

/-- A command of the LA4 RTU engine. -/
inductive Instr where
  /-- CONNECT, format C (30 R121). -/
  | connect (baud : BitVec 3) (slave : BitVec 5) (verbose : Bool)
  /-- READ_REGS, format R (30 R122). -/
  | readRegs (count : BitVec 8) (addr : Word)
  /-- WRITE_REG, format W (30 R123). -/
  | writeReg (addr value : Word)
  /-- POLL_CYCLE, format N (30 R125). -/
  | pollCycle
  /-- TEARDOWN, format N (30 R125). -/
  | teardown
  deriving DecidableEq, Repr

end Sys2Proof
end

