-- ==== Sys2Proof/Decode.lean ====
section
/-! DEFINITION. Command words: the opcode map (30 R127), the decoder, and after it the encoder, both written from the
field tables 30 R121 to R125. A command word is one 64-bit register write, so there is no byte order to choose. -/

namespace Sys2Proof

/-- A row of the opcode map (30 R127): a word `w` is the command when `w &&& mask = bits`. -/
structure OpRow where
  bits : CmdWord
  mask : CmdWord
  deriving DecidableEq, Repr

/-- CONNECT's row (30 R127). -/
def OpRow.connect : OpRow := ⟨0x0000000000000001#64, 0xFFFFFFFFFEE0F8FF#64⟩
/-- READ_REGS's row (30 R127). -/
def OpRow.readRegs : OpRow := ⟨0x0000000000000002#64, 0xFFFFFFFF000000FF#64⟩
/-- WRITE_REG's row (30 R127). -/
def OpRow.writeReg : OpRow := ⟨0x0000000000000003#64, 0xFFFF00000000FFFF#64⟩
/-- POLL_CYCLE's row (30 R127). -/
def OpRow.pollCycle : OpRow := ⟨0x0000000000000004#64, 0xFFFFFFFFFFFFFFFF#64⟩
/-- TEARDOWN's row (30 R127). -/
def OpRow.teardown : OpRow := ⟨0x0000000000000005#64, 0xFFFFFFFFFFFFFFFF#64⟩

/-- The whole opcode map (30 R127). -/
def opcodeMap : List OpRow :=
  [OpRow.connect, OpRow.readRegs, OpRow.writeReg, OpRow.pollCycle, OpRow.teardown]

/-- Whether a word is the row's command (30 R127). -/
def OpRow.accepts (r : OpRow) (w : CmdWord) : Bool := w &&& r.mask == r.bits

/-- The row of a command (30 R127). -/
def Instr.row : Instr → OpRow
  | .connect _ _ _ => OpRow.connect
  | .readRegs _ _ => OpRow.readRegs
  | .writeReg _ _ => OpRow.writeReg
  | .pollCycle => OpRow.pollCycle
  | .teardown => OpRow.teardown

/-- Why a word is no command (30 R128). Both kinds are an illegal command. -/
inductive DecodeError where
  /-- OP is 0x00 or 0x06..0xFF. -/
  | unknownOpcode
  /-- OP is assigned and a reserved bit of its format is 1. -/
  | reservedBit
  deriving DecidableEq, Repr

/-- OP, bits 7:0 (30 R120). -/
def opField (w : CmdWord) : Byte := w.extractLsb' 0 8
/-- BAUD, bits 10:8 (30 R121). -/
def baudField (w : CmdWord) : BitVec 3 := w.extractLsb' 8 3
/-- SLAVE, bits 20:16 (30 R121). -/
def slaveField (w : CmdWord) : BitVec 5 := w.extractLsb' 16 5
/-- VERBOSE, bit 24 (30 R121). -/
def verboseField (w : CmdWord) : Bool := w.getLsbD 24
/-- COUNT, bits 15:8 (30 R122). -/
def countField (w : CmdWord) : BitVec 8 := w.extractLsb' 8 8
/-- ADDR, bits 31:16 (30 R122, R123). -/
def addrField (w : CmdWord) : Word := w.extractLsb' 16 16
/-- VALUE, bits 47:32 (30 R123). -/
def valueField (w : CmdWord) : Word := w.extractLsb' 32 16

/-- The command a word stands for, or why it stands for none (30 R126 to R128). -/
def decode (w : CmdWord) : Except DecodeError Instr :=
  if OpRow.connect.accepts w then .ok (.connect (baudField w) (slaveField w) (verboseField w))
  else if OpRow.readRegs.accepts w then .ok (.readRegs (countField w) (addrField w))
  else if OpRow.writeReg.accepts w then .ok (.writeReg (addrField w) (valueField w))
  else if OpRow.pollCycle.accepts w then .ok .pollCycle
  else if OpRow.teardown.accepts w then .ok .teardown
  else if decide (1 ≤ (opField w).toNat) && decide ((opField w).toNat ≤ 5) then .error .reservedBit
  else .error .unknownOpcode

/-- A field placed at bit `lo` of a `w`-bit word whose other bits are 0 (00 R12). -/
def fieldAt (w lo : Nat) {n : Nat} (v : BitVec n) : BitVec w := v.setWidth w <<< lo

/-- A one-bit field placed at bit `lo` of a `w`-bit word whose other bits are 0 (00 R12). -/
def bitAt (w lo : Nat) (b : Bool) : BitVec w := fieldAt w lo (BitVec.ofBool b)

/-- The word of a command, its fields at the places of 30 R121 to R125. -/
def encode : Instr → CmdWord
  | .connect baud slave verbose => 0x01#64 ||| fieldAt 64 8 baud ||| fieldAt 64 16 slave ||| bitAt 64 24 verbose
  | .readRegs count addr => 0x02#64 ||| fieldAt 64 8 count ||| fieldAt 64 16 addr
  | .writeReg addr value => 0x03#64 ||| fieldAt 64 16 addr ||| fieldAt 64 32 value
  | .pollCycle => 0x04#64
  | .teardown => 0x05#64

/-- The command word whose low `nbits` bits are those of `w` and whose other bits are 0. -/
def tableWord (nbits w : Nat) : CmdWord := BitVec.ofNat 64 (w % 2 ^ nbits)

/-- The command the decoder reads from a word of the opcode table. -/
def decodeTableWord (nbits w : Nat) : Option Instr :=
  match decode (tableWord nbits w) with
  | .ok i => some i
  | .error _ => none

end Sys2Proof
end

