-- ==== Sys2Proof/Config.lean ====
section
/-! DEFINITION. What an instance is built with (00 R9) and the free values of the environment (20 R96, 41 R212).
The OPEN parameters and the free values are opaque constants: nothing can be proved of what they are. -/

namespace Sys2Proof

/-- The CRC-16 algorithm of an instance (40 R161). -/
inductive CrcProfile where
  | modbus
  | ccittKermit
  | ccittFalse
  deriving DecidableEq, Repr

/-- What one `Transact` returns (20 R96). A frame holds at least one byte, so its first byte stands apart. -/
inductive RxOutcome where
  /-- No response frame began in time. -/
  | timeout
  /-- The bytes received, and whether a character or the spacing was bad (40 R181). -/
  | frame (first : Byte) (rest : List Byte) (rxErr : Bool)
  deriving DecidableEq, Repr, Inhabited

/-- What the world outside answers to a CONNECT that passes its checks (41 R211, R212). -/
inductive ConnectDraw where
  | ok
  | openFailed
  | linkFailed
  deriving DecidableEq, Repr, Inhabited

/-- The parameters an instance is built with (00 R9). No step changes them (70 R413).
`respTimeout` is read by no rule (60 R391). `targetNo` is the number the platform gives the instance (60 R395);
it only tells the free values of two instances apart. `lineNo` is the line the platform wires the instance to (60 R395, 93
I6): two instances share a line when they have the same one. -/
structure Params where
  targetNo : Nat
  lineNo : Nat
  maxBlock : Nat
  crcProfile : CrcProfile
  speedAddr : Word
  torqueAddr : Word
  ioAddr : Word
  errAddr : Word
  faultMsgs : List (Word × String)
  clearCodeOnAlarmClear : Bool
  respTimeout : Nat
  deriving DecidableEq, Repr

/-- The legal range of MAX_BLOCK (00 R9). -/
def Params.wf (p : Params) : Bool := decide (3 ≤ p.maxBlock) && decide (p.maxBlock ≤ 125)

namespace Config

/-- SPEED_ADDR, OPEN (00 R9). DESIGN CHOICE (log 1): an opaque constant; safe. -/
opaque speedAddr : Word
/-- TORQUE_ADDR, OPEN (00 R9). DESIGN CHOICE (log 1): an opaque constant; safe. -/
opaque torqueAddr : Word
/-- IO_ADDR, OPEN (00 R9). DESIGN CHOICE (log 1): an opaque constant; safe. -/
opaque ioAddr : Word
/-- ERR_ADDR, OPEN (00 R9). DESIGN CHOICE (log 1): an opaque constant; safe. -/
opaque errAddr : Word
/-- The entries of FAULT_MSG but for the codes 0 and 13 (42 R276), OPEN. DESIGN CHOICE (log 15): opaque; safe. -/
opaque faultMsgs : List (Word × String)
/-- The line assignment of an instance, OPEN (93 I6). DESIGN CHOICE (log 1): an opaque constant; safe. -/
opaque lineNo : Nat
/-- RESP_TIMEOUT, OPEN (60 R391). DESIGN CHOICE (log 16): an opaque constant; safe. -/
opaque respTimeout : Nat

/-- The line's answer to the `n`-th transaction of a target, for the request sent (20 R96: "a model must admit every
outcome for every request"). DESIGN CHOICE (log 3): a free value; safe. -/
opaque lineOracle (target n : Nat) (req : List Byte) : RxOutcome

/-- The `n`-th CONNECT draw of a target (41 R212: "the model must admit all three").
DESIGN CHOICE (log 4): a free value; safe. -/
opaque connectOracle (target n : Nat) : ConnectDraw

/-- The parameters of `State.reset`: the spec's defaults where 00 R9 gives one, opaque constants where it leaves the
value OPEN. Every other choice of parameters is a value of `State.params` (log 1). -/
def params : Params where
  targetNo := 0
  lineNo := lineNo
  maxBlock := 125
  crcProfile := .modbus
  speedAddr := speedAddr
  torqueAddr := torqueAddr
  ioAddr := ioAddr
  errAddr := errAddr
  faultMsgs := faultMsgs
  clearCodeOnAlarmClear := true
  respTimeout := respTimeout

end Config
end Sys2Proof
end

