-- ==== Sys2Proof/Machine/State.lean ====
section
/-! DEFINITION. The state of one engine instance as plain data (10, R30 to R59), its value after reset (70 R411), and
the reasons a step can stop. A register whose fields the host can only read is a structure of those fields; its image
in the register map is in Machine/Flags.lean and Machine/Ops.lean. -/

namespace Sys2Proof.Machine

/-- STATUS.CAUSE (60 R364). -/
inductive Cause where
  | ok
  | illegalCmd
  | notConnected
  | alreadyConnected
  | cfgInvalid
  | openFailed
  | linkFailed
  | countRange
  | xferFailed
  deriving DecidableEq, Repr

/-- STATUS.XFER_CAUSE (60 R365). -/
inductive XferCause where
  | ok
  | timeout
  | rxError
  | malformed
  | crcError
  | badSlave
  | slaveException
  | badFunction
  | badLength
  | badEcho
  deriving DecidableEq, Repr

/-- The stored fields of STATUS (10 R35). CONNECTED and BUSY are views of LINK and PHASE (10 R55, R56; log 2). -/
structure Status where
  done : Bool
  overrun : Bool
  writeOk : Bool
  cause : Cause
  xferCause : XferCause
  xferExc : Byte
  deriving DecidableEq, Repr

/-- LINKCFG (10 R36). -/
structure LinkCfg where
  baud : BitVec 3
  slave : BitVec 5
  verbose : Bool
  deriving DecidableEq, Repr

/-- CYCLE_RESULT (10 R39). -/
structure CycleResult where
  speedOk : Bool
  torqueOk : Bool
  ioOk : Bool
  errTried : Bool
  errOk : Bool
  alarmEval : Bool
  speedAtt : BitVec 3
  torqueAtt : BitVec 3
  ioAtt : BitVec 3
  errAtt : BitVec 3
  deriving DecidableEq, Repr

/-- VALID (10 R40). -/
structure Valid where
  speed : Bool
  torque : Bool
  io : Bool
  err : Bool
  aux : Bool
  deriving DecidableEq, Repr

/-- The DecodedSample registers 6 to 18 (10 R41 to R45), raw words. -/
structure Sample where
  speedCmd : Word
  speedFb : Word
  speedDev : Word
  torqueCmd : Word
  torqueFb : Word
  torqueDev : Word
  dcBusV : Word
  torqueLoad : Word
  brakeDuty : Word
  torqueOvl : Word
  din : BitVec 8
  dout : BitVec 6
  errorCode : Word
  deriving DecidableEq, Repr

/-- The states of the Alarm State Machine (44 R330). -/
inductive FaultState where
  | clear
  | faulted (code : Word)
  deriving DecidableEq, Repr

/-- LINK (10 R55). -/
inductive Link where
  | disconnected
  | connected
  deriving DecidableEq, Repr

/-- PHASE (10 R56). -/
inductive Phase where
  | idle
  | connecting
  | xfer
  | cycle
  | tearing
  deriving DecidableEq, Repr

/-- BLK, the poll-cycle step next to run (10 R56); `finish` is the END of that rule. -/
inductive Blk where
  | speed
  | torque
  | io
  | alarm
  | err
  | finish
  deriving DecidableEq, Repr

/-- SEQ = (PHASE, BLK, ATT, CUR) (10 R56). -/
structure Seq where
  phase : Phase
  blk : Blk
  att : Nat
  cur : CmdWord
  deriving DecidableEq, Repr

/-- One event of the notification trace (10 R58, 44 R340). -/
structure Notify where
  code : Word
  msg : String
  deriving DecidableEq, Repr

/-- What the host does next (log 5). -/
inductive HostAction where
  /-- Write a register by its number (10 R32). -/
  | write (reg : Nat) (value : BitVec 64)
  /-- Read STATUS until BUSY = 0 (30 R138, SYNC). -/
  | sync
  /-- Do nothing for one step of the engine. -/
  | turn
  /-- Assert reset (70 R410). -/
  | reset
  deriving DecidableEq, Repr

/-- The model's own fields: what the world outside will do, and what the engine has sent (log 3, 4, 5, 14).
The spec names none of them. -/
structure Env where
  agenda : List HostAction
  rxScript : List RxOutcome
  connectScript : List ConnectDraw
  txCount : Nat
  connectCount : Nat
  sent : List (List Byte)
  deriving DecidableEq, Repr

/-- The state of one engine instance (10 R30). -/
structure State where
  params : Params
  cmd : CmdWord
  status : Status
  linkcfg : LinkCfg
  resLen : BitVec 8
  res : List Word
  cycle : CycleResult
  valid : Valid
  sample : Sample
  faultState : FaultState
  errorTally : Word32
  notifyCount : Word32
  notifyCode : Word
  pollIntervalUs : Word32
  link : Link
  seq : Seq
  notifyTrace : List Notify
  env : Env
  deriving DecidableEq, Repr

/-- Why the machine stops. The spec has no such case (60 R371): this one is the model's own. -/
inductive Fault where
  /-- Raised by the engine's step when PHASE is not IDLE and CUR is no command word. No reachable state is such a state
  (log 12), so no run ends in it: safe. -/
  | noCommand
  deriving DecidableEq, Repr

/-- Why an instruction has no meaning. -/
inductive Refusal where
  /-- Raised by `exec` for a command without a meaning, by its mnemonic. No arm does so: every command has its meaning.
  Safe. -/
  | notModelled (mnemonic : String)
  deriving DecidableEq, Repr

/-- The all-zero CYCLE_RESULT (10 R39). -/
def CycleResult.zero : CycleResult := ⟨false, false, false, false, false, false, 0, 0, 0, 0⟩

/-- The all-zero DecodedSample (70 R411). -/
def Sample.zero : Sample := ⟨0, 0, 0, 0, 0, 0, 0, 0, 0, 0, 0, 0, 0⟩

/-- The model's own fields right after reset: nothing scripted, nothing sent. DESIGN CHOICE (log 3, 4, 5, 14). -/
def Env.quiet : Env := ⟨[], [], [], 0, 0, []⟩

/-- Every piece of state at its reset value (70 R411), for an instance with these parameters. -/
def State.resetWith (p : Params) (env : Env) : State where
  params := p
  cmd := 0
  status := ⟨false, false, false, .ok, .ok, 0⟩
  linkcfg := ⟨0, 0, false⟩
  resLen := 0
  res := List.replicate p.maxBlock 0
  cycle := CycleResult.zero
  valid := ⟨false, false, false, false, false⟩
  sample := Sample.zero
  faultState := .clear
  errorTally := 0
  notifyCount := 0
  notifyCode := 0
  pollIntervalUs := 0
  link := .disconnected
  seq := ⟨.idle, .speed, 0, 0⟩
  notifyTrace := []
  env := env

/-- The machine right after reset (70 R411), with the parameters of Config (log 1). -/
def State.reset : State := State.resetWith Config.params Env.quiet

/-- STATUS.BUSY: a command is running (10 R35, R56; log 2). -/
def State.busy (s : State) : Bool := s.seq.phase != .idle

/-- STATUS.CONNECTED: the link is open (10 R35, R55; log 2). -/
def State.connected (s : State) : Bool := s.link == .connected

/-! The updates of the state, one for each field that a rule writes. -/

/-- Write CMD. -/
def State.setCmd (s : State) (v : CmdWord) : State := { s with cmd := v }
/-- Write STATUS. -/
def State.setStatus (s : State) (v : Status) : State := { s with status := v }
/-- Write LINKCFG. -/
def State.setLinkcfg (s : State) (v : LinkCfg) : State := { s with linkcfg := v }
/-- Write RES_LEN. -/
def State.setResLen (s : State) (v : BitVec 8) : State := { s with resLen := v }
/-- Write RES. -/
def State.setRes (s : State) (v : List Word) : State := { s with res := v }
/-- Write CYCLE_RESULT. -/
def State.setCycle (s : State) (v : CycleResult) : State := { s with cycle := v }
/-- Write VALID. -/
def State.setValid (s : State) (v : Valid) : State := { s with valid := v }
/-- Write the DecodedSample registers. -/
def State.setSample (s : State) (v : Sample) : State := { s with sample := v }
/-- Write FAULT_STATE. -/
def State.setFaultState (s : State) (v : FaultState) : State := { s with faultState := v }
/-- Write ERROR_TALLY. -/
def State.setErrorTally (s : State) (v : Word32) : State := { s with errorTally := v }
/-- Write NOTIFY_COUNT. -/
def State.setNotifyCount (s : State) (v : Word32) : State := { s with notifyCount := v }
/-- Write NOTIFY_CODE. -/
def State.setNotifyCode (s : State) (v : Word) : State := { s with notifyCode := v }
/-- Write POLL_INTERVAL_US. -/
def State.setPollIntervalUs (s : State) (v : Word32) : State := { s with pollIntervalUs := v }
/-- Write LINK. -/
def State.setLink (s : State) (v : Link) : State := { s with link := v }
/-- Write SEQ. -/
def State.setSeq (s : State) (v : Seq) : State := { s with seq := v }
/-- Write NOTIFY_TRACE. -/
def State.setNotifyTrace (s : State) (v : List Notify) : State := { s with notifyTrace := v }
/-- Write the model's own fields. -/
def State.setEnv (s : State) (v : Env) : State := { s with env := v }

end Sys2Proof.Machine
end

