-- ==== Sys2Proof/Machine/Flags.lean ====
section
/-! DEFINITION. Every flag of the block (10 R59): the codes of the cause fields, the images of the status registers as
the host reads them, and the named writes of flags that the commands share. -/

namespace Sys2Proof.Machine

/-- The code of a completion cause (60 R364). -/
def causeCode : Cause → Byte
  | .ok => 0x00
  | .illegalCmd => 0x01
  | .notConnected => 0x02
  | .alreadyConnected => 0x03
  | .cfgInvalid => 0x04
  | .openFailed => 0x05
  | .linkFailed => 0x06
  | .countRange => 0x07
  | .xferFailed => 0x08

/-- The code of a transaction cause (60 R365). -/
def xferCauseCode : XferCause → Byte
  | .ok => 0x00
  | .timeout => 0x01
  | .rxError => 0x02
  | .malformed => 0x03
  | .crcError => 0x04
  | .badSlave => 0x05
  | .slaveException => 0x06
  | .badFunction => 0x07
  | .badLength => 0x08
  | .badEcho => 0x09

/-- STATUS as the host reads it (10 R35). -/
def statusImage (s : State) : Word32 :=
  bitAt 32 0 s.connected ||| bitAt 32 1 s.busy ||| bitAt 32 2 s.status.done ||| bitAt 32 3 s.status.overrun
    ||| bitAt 32 4 s.status.writeOk ||| fieldAt 32 8 (causeCode s.status.cause)
    ||| fieldAt 32 16 (xferCauseCode s.status.xferCause) ||| fieldAt 32 24 s.status.xferExc

/-- LINKCFG as the host reads it (10 R36). -/
def linkcfgImage (c : LinkCfg) : Word32 :=
  fieldAt 32 0 c.baud ||| fieldAt 32 8 c.slave ||| bitAt 32 16 c.verbose

/-- CYCLE_RESULT as the host reads it (10 R39). -/
def cycleImage (c : CycleResult) : Word32 :=
  bitAt 32 0 c.speedOk ||| bitAt 32 1 c.torqueOk ||| bitAt 32 2 c.ioOk ||| bitAt 32 3 c.errTried
    ||| bitAt 32 4 c.errOk ||| bitAt 32 5 c.alarmEval ||| fieldAt 32 8 c.speedAtt ||| fieldAt 32 12 c.torqueAtt
    ||| fieldAt 32 16 c.ioAtt ||| fieldAt 32 20 c.errAtt

/-- VALID as the host reads it (10 R40). -/
def validImage (v : Valid) : BitVec 8 :=
  bitAt 8 0 v.speed ||| bitAt 8 1 v.torque ||| bitAt 8 2 v.io ||| bitAt 8 3 v.err ||| bitAt 8 4 v.aux

/-- LATCHED (10 R46): the latched code, 0 in `Clear`. -/
def latchedCode : FaultState → Word
  | .clear => 0
  | .faulted c => c

/-- FAULT_STATE as the host reads it (10 R46). -/
def faultImage : FaultState → Word32
  | .clear => 0
  | .faulted c => bitAt 32 0 true ||| fieldAt 32 16 c

/-- `sat_inc32` (00 R13). -/
def satInc32 (x : Word32) : Word32 := if x = 0xFFFFFFFF#32 then x else x + 1

/-- `wrap_inc32` (00 R13). -/
def wrapInc32 (x : Word32) : Word32 := x + 1

/-- The flags as an acceptance leaves them (60 R362); BUSY is PHASE's. -/
def acceptFlags (st : Status) : Status := { st with done := false, overrun := false, writeOk := false }

/-- The flags as `complete(cause)` leaves them (60 R366); BUSY is PHASE's. -/
def completeFlags (c : Cause) (st : Status) : Status := { st with cause := c, done := true }

/-- The flags as a rejected command leaves them (60 R363). -/
def overrunFlags (st : Status) : Status := { st with overrun := true }

/-- The flags as a successful WRITE_REG leaves them before it completes (41 R230). -/
def writeOkFlags (st : Status) : Status := { st with writeOk := true }

/-- The flags as a transaction leaves them (40 R184). -/
def xferFlags (c : XferCause) (exc : Byte) (st : Status) : Status := { st with xferCause := c, xferExc := exc }

end Sys2Proof.Machine
end

