-- ==== Sys2Proof/Machine/Operands.lean ====
section
/-! DEFINITION. Operands: the fixed parameters (00 R9), the 16-bit fields of a frame (20 R100), what each poll block
reads, the baud set and the fault messages. -/

namespace Sys2Proof.Machine

/-- RETRY_CEILING (00 R9, 43 R295). -/
def retryCeiling : Nat := 5
/-- POLL_MIN_US (00 R9). -/
def pollMinUs : Word32 := 1000
/-- POLL_MAX_US (00 R9). -/
def pollMaxUs : Word32 := 2000000

/-- The high byte of a word. -/
def hiByte (w : Word) : Byte := w.extractLsb' 8 8
/-- The low byte of a word. -/
def loByte (w : Word) : Byte := w.extractLsb' 0 8
/-- The word whose bytes are given, high byte first (20 R100). -/
def wordOf (hi lo : Byte) : Word := hi ++ lo

/-- Byte `i` of a byte sequence in transmission order (00 R13). -/
def byteAt (bs : List Byte) (i : Nat) : Byte := bs.getD i 0
/-- Word `i` of a register sequence. -/
def wordAt (ws : List Word) (i : Nat) : Word := ws.getD i 0

/-- The rate of a baud code, none for code 7 (30 R124). -/
def baudRate (code : BitVec 3) : Option Nat :=
  match code.toNat with
  | 0 => some 2400
  | 1 => some 4800
  | 2 => some 9600
  | 3 => some 19200
  | 4 => some 38400
  | 5 => some 57600
  | 6 => some 115200
  | _ => none

/-- BAUD_SET in the order of its codes (00 R9). -/
def baudSet : List Nat := [2400, 4800, 9600, 19200, 38400, 57600, 115200]

/-- The start address of a poll block (00 R9, 20 R110). ALARM and END read nothing. -/
def blockAddr (p : Params) : Blk → Word
  | .speed => p.speedAddr
  | .torque => p.torqueAddr
  | .io => p.ioAddr
  | .err => p.errAddr
  | .alarm => 0
  | .finish => 0

/-- The register count of a poll block (00 R9). ALARM and END read nothing. -/
def blockCount : Blk → Nat
  | .speed => 3
  | .torque => 3
  | .io => 2
  | .err => 1
  | .alarm => 0
  | .finish => 0

/-- The message a parameter table gives a code; "unknown error code" for a code it does not list (42 R276). -/
def lookupMsg : List (Word × String) → Word → String
  | [], _ => "unknown error code"
  | (k, m) :: rest, c => if k = c then m else lookupMsg rest c

/-- FAULT_MSG (42 R276): fixed at the codes 0 and 13, a parameter elsewhere. -/
def faultMsg (p : Params) (c : Word) : String :=
  if c = 0 then "" else if c = 13 then "undervoltage" else lookupMsg p.faultMsgs c

end Sys2Proof.Machine
end

