-- ==== Sys2Proof/Machine/Alarm.lean ====
section
/-! DEFINITION. The Alarm State Machine (44 R330 to R343). -/

namespace Sys2Proof.Machine

/-- `notify(c)` (44 R340). -/
def notify (c : Word) (s : State) : State :=
  ((s.setNotifyTrace (s.notifyTrace ++ [⟨c, faultMsg s.params c⟩])).setNotifyCount
    (wrapInc32 s.notifyCount)).setNotifyCode c

/-- `alarm_step(1, c)`: the alarm bit set, with the decoded code (44 R339). -/
def alarmSet (c : Word) (s : State) : State :=
  if c = 0 then s.setFaultState .clear
  else if c ≠ latchedCode s.faultState then notify c (s.setFaultState (.faulted c))
  else s

/-- `alarm_step(0, none)`: the alarm bit clear (44 R339). -/
def alarmCleared (s : State) : State := s.setFaultState .clear

/-- `alarm_step(a, c)` (44 R339). -/
def alarmStep (a : Bool) (c : Word) (s : State) : State := if a then alarmSet c s else alarmCleared s

end Sys2Proof.Machine
end

