-- ==== Sys2Proof/Machine/Decoder.lean ====
section
/-! DEFINITION. The Decoder (42): the four block decodes, which store raw words, and the signed, scaled, binary64 and
boolean views of what they store. -/

namespace Sys2Proof.Machine

/-- `decode_speed` (42 R261). -/
def decodeSpeed (w : List Word) (d : Sample) : Sample :=
  { d with speedCmd := wordAt w 0, speedFb := wordAt w 1, speedDev := wordAt w 2 }

/-- `decode_torque` (42 R265). -/
def decodeTorque (w : List Word) (d : Sample) : Sample :=
  { d with torqueCmd := wordAt w 0, torqueFb := wordAt w 1, torqueDev := wordAt w 2 }

/-- `decode_io` (42 R270, R271). -/
def decodeIo (w : List Word) (d : Sample) : Sample :=
  { d with din := (wordAt w 0).extractLsb' 0 8, dout := (wordAt w 1).extractLsb' 0 6 }

/-- `decode_error`, its store (42 R275). -/
def decodeError (w : List Word) (d : Sample) : Sample := { d with errorCode := wordAt w 0 }

/-- The alarm bit, digital-out line 1 (42 R271). -/
def alarmBit (d : Sample) : Bool := d.dout.getLsbD 1

/-- `speed_value`, in RPM (42 R262). -/
def speedValue (raw : Word) : Int := raw.toInt

/-- `torque_value`, in percent: the exact quotient of the unsigned word by 10 (42 R266, R268). -/
def torqueValue (raw : Word) : Rat := (raw.toNat : Rat) / 10

/-- The quotient rounded to the nearest integer, ties to even. -/
def roundHalfEven (n d : Nat) : Nat :=
  let q := n / d
  let r := n % d
  if 2 * r < d then q else if d < 2 * r then q + 1 else q + q % 2

/-- The exponent of the leading bit of `n / 10`, plus 4, for `n` ≥ 1. -/
def tenthLog (n : Nat) : Nat := Nat.log2 (16 * n / 10)

/-- The 53-bit significand of `n / 10` rounded to nearest even, as an integer: `n / 10 * 2 ^ (56 - tenthLog n)` rounded. -/
def tenthSignificand (n : Nat) : Nat := roundHalfEven (n * 2 ^ (56 - tenthLog n)) 10

/-- `RNE64(zext(raw) / 10)` as the bits of a binary64 number (42 R267). A significand of 2^53 carries into the exponent
field, as IEEE 754 addition of the two fields does. -/
def torqueFloat (raw : Word) : BitVec 64 :=
  if raw = 0 then 0
  else BitVec.ofNat 64 ((1019 + tenthLog raw.toNat) * 2 ^ 52 + (tenthSignificand raw.toNat - 2 ^ 52))

/-- The bits of the binary64 number equal to the speed value (42 R262): sign, biased exponent, significand. -/
def speedFloat (raw : Word) : BitVec 64 :=
  let m := (speedValue raw).natAbs
  if m = 0 then 0
  else BitVec.ofNat 64 ((if raw.msb then 2 ^ 63 else 0) + (1023 + Nat.log2 m) * 2 ^ 52
    + (m * 2 ^ (52 - Nat.log2 m) - 2 ^ 52))

/-- The rational number a finite binary64 number stands for (92 D25). -/
def f64Value (b : BitVec 64) : Rat :=
  let e := (b.extractLsb' 52 11).toNat
  let m := (b.extractLsb' 0 52).toNat
  let sign : Rat := if b.msb then -1 else 1
  sign * (if e = 0 then (m : Rat) * 2 ^ (-1074 : Int)
    else ((2 ^ 52 + m : Nat) : Rat) * 2 ^ ((e : Int) - 1075))

/-- Digital-in line `i` (42 R270). -/
def digitalIn (s : State) (i : Nat) : Bool := s.sample.din.getLsbD i

/-- Digital-out line `j` (42 R271). -/
def digitalOut (s : State) (j : Nat) : Bool := s.sample.dout.getLsbD j

/-- The names of the eight digital-in lines (42 R270). -/
def digitalInNames : List String :=
  ["servo-enabling", "digital_in1", "digital_in2", "digital_in3", "digital_in4", "digital_in5", "digital_in6", "homing"]

/-- The names of the six digital-out lines (42 R271). -/
def digitalOutNames : List String :=
  ["servo-ready", "active-alarm", "digital_out2", "digital_out3", "digital_out4", "torque-limiting"]

end Sys2Proof.Machine
end

