-- ==== Sys2Proof/Machine/Crc.lean ====
section
/-! DEFINITION. The CRC-16 engine (40 R160 to R164, R176). -/

namespace Sys2Proof.Machine

/-- `poly` in normal form (40 R161). -/
def crcPoly : CrcProfile → Word
  | .modbus => 0x8005
  | .ccittKermit => 0x1021
  | .ccittFalse => 0x1021

/-- `bitreverse16(poly)`, used by the reflected profiles (40 R162). -/
def crcReflectedPoly : CrcProfile → Word
  | .modbus => 0xA001
  | .ccittKermit => 0x8408
  | .ccittFalse => 0x8408

/-- `init` (40 R161). -/
def crcInit : CrcProfile → Word
  | .modbus => 0xFFFF
  | .ccittKermit => 0x0000
  | .ccittFalse => 0xFFFF

/-- `refin` and `refout`, which agree in every profile (40 R161). -/
def crcReflected : CrcProfile → Bool
  | .modbus => true
  | .ccittKermit => true
  | .ccittFalse => false

/-- `xorout` (40 R161). -/
def crcXorOut (_ : CrcProfile) : Word := 0x0000

/-- One of the eight bit steps of a reflected CRC (40 R162). -/
def crcBitReflected (rpoly c : Word) : Word :=
  if c.getLsbD 0 then (c >>> 1) ^^^ rpoly else c >>> 1

/-- One of the eight bit steps of an unreflected CRC (40 R162). -/
def crcBitNormal (poly c : Word) : Word :=
  if c.getLsbD 15 then (c <<< 1) ^^^ poly else c <<< 1

/-- Eight times (40 R162). -/
def eightTimes (f : Word → Word) (c : Word) : Word := f (f (f (f (f (f (f (f c)))))))

/-- The CRC register after one more byte (40 R162). -/
def crcByte (p : CrcProfile) (c : Word) (b : Byte) : Word :=
  match crcReflected p with
  | true => eightTimes (crcBitReflected (crcReflectedPoly p)) (c ^^^ b.setWidth 16)
  | false => eightTimes (crcBitNormal (crcPoly p)) (c ^^^ (b.setWidth 16 <<< 8))

/-- The CRC register after a byte sequence. -/
def crcFold (p : CrcProfile) : Word → List Byte → Word
  | c, [] => c
  | c, b :: bs => crcFold p (crcByte p c b) bs

/-- `crc16` of the selected profile (40 R162). -/
def crc16 (p : CrcProfile) (bs : List Byte) : Word := crcFold p (crcInit p) bs ^^^ crcXorOut p

/-- `crc_bytes`: the CRC of a byte sequence, low byte first (40 R176). -/
def crcBytes (p : CrcProfile) (bs : List Byte) : List Byte := [loByte (crc16 p bs), hiByte (crc16 p bs)]

/-- A byte sequence with its CRC appended (30 R130, 40 R176). -/
def withCrc (p : CrcProfile) (bs : List Byte) : List Byte := bs ++ crcBytes p bs

end Sys2Proof.Machine
end

