-- ==== Sys2Proof/Machine/Framer.lean ====
section
/-! DEFINITION. The framer (40 R175 to R185): the frames of 30 R130 to R137, building a request, the one line primitive
`Transact` (20 R96), validating its outcome, and the two Transport primitives over them. -/

namespace Sys2Proof.Machine

/-- The function code 0x03, read holding registers (00 R2). -/
def fcRead : Byte := 0x03
/-- The function code 0x06, preset single register (00 R2). -/
def fcWrite : Byte := 0x06
/-- The bit an exception response sets in the function byte (30 R135). -/
def excFlag : Byte := 0x80

/-- A request frame for a slave address byte (30 R131, R133). -/
def requestFrame (p : CrcProfile) (slave fc : Byte) (a b : Word) : List Byte :=
  withCrc p [slave, fc, hiByte a, loByte a, hiByte b, loByte b]

/-- The bytes of a register sequence, each register high byte first (30 R132). -/
def wordBytes : List Word → List Byte
  | [] => []
  | w :: ws => hiByte w :: loByte w :: wordBytes ws

/-- The response to a read of these registers (30 R132). -/
def readResponse (p : CrcProfile) (slave : Byte) (ws : List Word) : List Byte :=
  withCrc p (slave :: fcRead :: BitVec.ofNat 8 (2 * ws.length) :: wordBytes ws)

/-- The exception response to a request with this function code (30 R135). -/
def excResponse (p : CrcProfile) (slave fc exc : Byte) : List Byte :=
  withCrc p [slave, fc ||| excFlag, exc]

/-- The outcome that delivers these bytes without a receive error; no bytes are no frame (20 R96). -/
def received : List Byte → RxOutcome
  | [] => .timeout
  | b :: bs => .frame b bs false

/-- The target address as the address byte of a frame (30 R131). -/
def slaveByte (s : State) : Byte := s.linkcfg.slave.setWidth 8

/-- `build(fc, a, b)` (40 R175). -/
def build (s : State) (fc : Byte) (a b : Word) : List Byte :=
  requestFrame s.params.crcProfile (slaveByte s) fc a b

/-- What `validate` returns (40 R182): the words, or a failure cause. -/
inductive Verdict where
  | ok (words : List Word)
  | slaveException (exc : Byte)
  | failed (cause : XferCause)
  deriving DecidableEq, Repr

/-- The registers of a 0x03 response, register `i` in the bytes 3+2i and 4+2i (40 R182). -/
def responseWords (bs : List Byte) (n : Nat) : List Word :=
  (List.range n).map fun i => wordOf (byteAt bs (3 + 2 * i)) (byteAt bs (4 + 2 * i))

/-- The register count of a 0x03 request (40 R182). -/
def requestCount (req : List Byte) : Nat := (wordOf (byteAt req 4) (byteAt req 5)).toNat

/-- The checks of `validate` on the bytes of a frame received without error, in the order 40 R182 gives. The framer
sends only the function codes 0x03 and 0x06 (30 R137), so the last check is the one for 0x06 (log 21). -/
def validateBytes (p : CrcProfile) (req bs : List Byte) : Verdict :=
  let n := bs.length
  let fc := byteAt req 1
  if n < 4 ∨ 256 < n then .failed .malformed
  else if crc16 p (bs.take (n - 2)) ≠ wordOf (byteAt bs (n - 1)) (byteAt bs (n - 2)) then .failed .crcError
  else if byteAt bs 0 ≠ byteAt req 0 then .failed .badSlave
  else if byteAt bs 1 = fc ||| excFlag then
    if n = 5 then .slaveException (byteAt bs 2) else .failed .malformed
  else if byteAt bs 1 ≠ fc then .failed .badFunction
  else if fc = fcRead then
    let count := requestCount req
    if (byteAt bs 2).toNat ≠ 2 * count ∨ n ≠ 5 + 2 * count then .failed .badLength
    else .ok (responseWords bs count)
  else if bs ≠ req then .failed .badEcho
  else .ok []

/-- `validate(req, outcome)` (40 R182). -/
def validate (p : CrcProfile) (req : List Byte) : RxOutcome → Verdict
  | .timeout => .failed .timeout
  | .frame first rest rxErr => if rxErr then .failed .rxError else validateBytes p req (first :: rest)

/-- The transaction cause of a verdict (60 R365). -/
def Verdict.cause : Verdict → XferCause
  | .ok _ => .ok
  | .slaveException _ => .slaveException
  | .failed c => c

/-- The exception code of a verdict, 0 where it is none (40 R184). -/
def Verdict.exc : Verdict → Byte
  | .ok _ => 0
  | .slaveException e => e
  | .failed _ => 0

/-- The words of a verdict; none where it is a failure (40 R185). -/
def Verdict.words : Verdict → List Word
  | .ok ws => ws
  | .slaveException _ => []
  | .failed _ => []

/-- Whether a verdict is `OK` (40 R183). -/
def Verdict.isOk : Verdict → Bool
  | .ok _ => true
  | .slaveException _ => false
  | .failed _ => false

/-- What the line answers to the `k`-th transaction from now (20 R96): the scripted outcome while the script lasts, a
free value after it (log 3). -/
def outcomeAt (s : State) (k : Nat) (req : List Byte) : RxOutcome :=
  match s.env.rxScript[k]? with
  | some o => o
  | none => Config.lineOracle s.params.targetNo (s.env.txCount + k) req

/-- The environment after one transaction: one outcome used, one frame sent (log 3, log 14). -/
def Env.transacted (e : Env) (req : List Byte) : Env :=
  { e with rxScript := e.rxScript.tail, txCount := e.txCount + 1, sent := e.sent ++ [req] }

/-- The verdict the next transaction of a request meets. -/
def nextVerdict (s : State) (req : List Byte) : Verdict :=
  validate s.params.crcProfile req (outcomeAt s 0 req)

/-- `validate(req, Transact(req))`, its effect on the state: the line is used once, and the transaction fields are
written (40 R182, R184). -/
def transact (s : State) (req : List Byte) : State :=
  (s.setEnv (s.env.transacted req)).setStatus
    (xferFlags (nextVerdict s req).cause (nextVerdict s req).exc s.status)

/-- The request of a read (40 R185). -/
def readRequest (s : State) (addr : Word) (count : Nat) : List Byte :=
  build s fcRead addr (BitVec.ofNat 16 count)

/-- The request of a write (40 R185). -/
def writeRequest (s : State) (addr value : Word) : List Byte := build s fcWrite addr value

/-- Whether `read_registers` makes a transaction for this count (20 R106, 40 R185). -/
def countInRange (s : State) (count : Nat) : Bool := decide (1 ≤ count) && decide (count ≤ s.params.maxBlock)

/-- The words `read_registers` returns (40 R185). -/
def readWords (s : State) (addr : Word) (count : Nat) : List Word :=
  if countInRange s count then (nextVerdict s (readRequest s addr count)).words else []

/-- The state `read_registers` leaves (40 R185). -/
def readRegisters (s : State) (addr : Word) (count : Nat) : State :=
  if countInRange s count then transact s (readRequest s addr count) else s

/-- Whether `write_register` succeeds (40 R185). -/
def writeSucceeds (s : State) (addr value : Word) : Bool :=
  nextVerdict s (writeRequest s addr value) == .ok []

/-- The state `write_register` leaves (40 R185). -/
def writeRegister (s : State) (addr value : Word) : State := transact s (writeRequest s addr value)

end Sys2Proof.Machine
end

