-- ==== Sys2Proof/Machine/Ops.lean ====
section
/-! DEFINITION. The named operations on registers: host reads and writes by number (10 R32, R33), acceptance, rejection
and completion of a command (60 R362 to R367), and reset (70 R410). The block has no traps (60 R371): what ends a command
with a failure cause is `complete`, the one shared operation, and nothing returns from it (60 R372). -/

namespace Sys2Proof.Machine

/-- EFF_INTERVAL_US (60 R392). -/
def effIntervalUs (s : State) : Word32 :=
  if s.pollIntervalUs.toNat < pollMinUs.toNat then pollMinUs
  else if pollMaxUs.toNat < s.pollIntervalUs.toNat then pollMaxUs
  else s.pollIntervalUs

/-- RES[i] (10 R38). -/
def resWord (s : State) (i : Nat) : Word := wordAt s.res i

/-- What the host reads from a register number, widened to 64 bits (10 R32, R33). A read has no side effect. -/
def readReg (s : State) (n : Nat) : BitVec 64 :=
  match n with
  | 0 => s.cmd
  | 1 => (statusImage s).setWidth 64
  | 2 => (linkcfgImage s.linkcfg).setWidth 64
  | 3 => s.resLen.setWidth 64
  | 4 => (cycleImage s.cycle).setWidth 64
  | 5 => (validImage s.valid).setWidth 64
  | 6 => s.sample.speedCmd.setWidth 64
  | 7 => s.sample.speedFb.setWidth 64
  | 8 => s.sample.speedDev.setWidth 64
  | 9 => s.sample.torqueCmd.setWidth 64
  | 10 => s.sample.torqueFb.setWidth 64
  | 11 => s.sample.torqueDev.setWidth 64
  | 12 => s.sample.dcBusV.setWidth 64
  | 13 => s.sample.torqueLoad.setWidth 64
  | 14 => s.sample.brakeDuty.setWidth 64
  | 15 => s.sample.torqueOvl.setWidth 64
  | 16 => s.sample.din.setWidth 64
  | 17 => s.sample.dout.setWidth 64
  | 18 => s.sample.errorCode.setWidth 64
  | 19 => (faultImage s.faultState).setWidth 64
  | 20 => s.errorTally.setWidth 64
  | 21 => s.notifyCount.setWidth 64
  | 22 => s.notifyCode.setWidth 64
  | 23 => s.pollIntervalUs.setWidth 64
  | 24 => (effIntervalUs s).setWidth 64
  | n => if 32 ≤ n ∧ n < 32 + s.params.maxBlock then (resWord s (n - 32)).setWidth 64 else 0

/-- `complete(cause)`: the end of a command, whatever its cause (60 R366). -/
def complete (c : Cause) (s : State) : State :=
  (s.setStatus (completeFlags c s.status)).setSeq { s.seq with phase := .idle }

/-- The phase a command runs in (60 R362). -/
def phaseOf : Instr → Phase
  | .connect _ _ _ => .connecting
  | .readRegs _ _ => .xfer
  | .writeReg _ _ => .xfer
  | .pollCycle => .cycle
  | .teardown => .tearing

/-- Whether a command is a POLL_CYCLE. -/
def isPollCycle (i : Instr) : Bool := decide (i = .pollCycle)

/-- The start of a poll cycle in its acceptance: the sequencer at the first attempt of the speed block (43 R305, log 9),
and CYCLE_RESULT cleared, where the link is open (10 R39, 43 R291, log 7). -/
def enterCycle (s : State) : State :=
  let t := s.setSeq { s.seq with blk := .speed, att := 0 }
  if s.connected then t.setCycle CycleResult.zero else t

/-- A word latched at acceptance, the flags with it (60 R362). -/
def latch (w : CmdWord) (s : State) : State :=
  ((s.setCmd w).setSeq { s.seq with cur := w }).setStatus (acceptFlags s.status)

/-- The start of a decoded command in its acceptance (60 R362). -/
def enter (i : Instr) (s : State) : State :=
  let t := s.setSeq { s.seq with phase := phaseOf i }
  if isPollCycle i then enterCycle t else t

/-- Acceptance of a command word by an idle engine (60 R362). An illegal word completes at once (60 R367). -/
def accept (w : CmdWord) (s : State) : State :=
  match decode w with
  | .ok i => enter i (latch w s)
  | .error _ => complete .illegalCmd (latch w s)

/-- Rejection of a command word by a busy engine (60 R363). -/
def reject (s : State) : State := s.setStatus (overrunFlags s.status)

/-- A host write to CMD (60 R362, R363). -/
def writeCmd (w : CmdWord) (s : State) : State := if s.busy then reject s else accept w s

/-- A host write by register number (10 R32). POLL_INTERVAL_US takes the low 32 bits (log 11). -/
def writeReg (n : Nat) (v : BitVec 64) (s : State) : State :=
  match n with
  | 0 => writeCmd v s
  | 23 => s.setPollIntervalUs (v.setWidth 32)
  | _ => s

/-- The model's own fields after a reset: the world outside is not reset, and nothing is sent yet (log 13). -/
def Env.afterReset (e : Env) : Env := { e with sent := [] }

/-- Reset asserted at any time (70 R410 to R413). -/
def resetNow (s : State) : State := State.resetWith s.params s.env.afterReset

end Sys2Proof.Machine
end

