-- ==== Sys2Proof/Machine/Polling.lean ====
section
/-! DEFINITION. The Polling Engine (43): POLL_CYCLE, one atomic step at a time (43 R305, 70 R430). -/

namespace Sys2Proof.Machine

/-- The attempt field of a block in CYCLE_RESULT set to `k` (43 R295). ALARM and END have none. -/
def setAttempts (b : Blk) (k : Nat) (c : CycleResult) : CycleResult :=
  match b with
  | .speed => { c with speedAtt := BitVec.ofNat 3 k }
  | .torque => { c with torqueAtt := BitVec.ofNat 3 k }
  | .io => { c with ioAtt := BitVec.ofNat 3 k }
  | .err => { c with errAtt := BitVec.ofNat 3 k }
  | .alarm => c
  | .finish => c

/-- The sequencer at the first attempt of the next block (43 R290, R305). -/
def goto (b : Blk) (s : State) : State := s.setSeq { s.seq with blk := b, att := 0 }

/-- The block after an exhausted one (43 R291, R304): an exhausted IO block ends the cycle without an alarm evaluation. -/
def afterExhausted : Blk → Blk
  | .speed => .torque
  | .torque => .io
  | .io => .finish
  | .alarm => .finish
  | .err => .finish
  | .finish => .finish

/-- `store_speed` (43 R297). -/
def storeSpeed (w : List Word) (s : State) : State :=
  ((s.setSample (decodeSpeed w s.sample)).setValid { s.valid with speed := true }).setCycle
    { s.cycle with speedOk := true }

/-- `store_torque` (43 R298). -/
def storeTorque (w : List Word) (s : State) : State :=
  ((s.setSample (decodeTorque w s.sample)).setValid { s.valid with torque := true }).setCycle
    { s.cycle with torqueOk := true }

/-- `store_io` (43 R301). -/
def storeIo (w : List Word) (s : State) : State :=
  ((s.setSample (decodeIo w s.sample)).setValid { s.valid with io := true }).setCycle
    { s.cycle with ioOk := true }

/-- The alarm bit evaluated after the IO store: which path the cycle takes (43 R291, R302, R303; log 8). -/
def evaluateAlarm (s : State) : State :=
  if alarmBit s.sample then goto .err (s.setCycle { s.cycle with alarmEval := true, errTried := true })
  else goto .alarm (s.setCycle { s.cycle with alarmEval := true })

/-- A successful error-code read: the store, then the alarm step (43 R303). -/
def storeErr (w : List Word) (s : State) : State :=
  alarmStep true (wordAt w 0)
    (((s.setSample (decodeError w s.sample)).setValid { s.valid with err := true }).setCycle
      { s.cycle with errOk := true })

/-- The store of a block in the step of its successful attempt, and what comes next (43 R295 to R303). -/
def storeBlock (b : Blk) (w : List Word) (s : State) : State :=
  match b with
  | .speed => goto .torque (storeSpeed w s)
  | .torque => goto .io (storeTorque w s)
  | .io => evaluateAlarm (storeIo w s)
  | .err => goto .finish (storeErr w s)
  | .alarm => s
  | .finish => s

/-- ERROR_TALLY after a failed attempt (43 R296). -/
def countFailure (s : State) : State := s.setErrorTally (satInc32 s.errorTally)

/-- A failed attempt of a block, the `k`-th: counted, and then another attempt or the next block (43 R295, R296). -/
def failAttempt (b : Blk) (k : Nat) (s : State) : State :=
  let t := countFailure s
  if k < retryCeiling then t.setSeq { t.seq with att := k } else goto (afterExhausted b) t

/-- One iteration of `read_block` (43 R295): the attempt counted, one `read_registers`, then the store or the failure. -/
def attemptBlock (b : Blk) (s : State) : State :=
  let k := s.seq.att + 1
  let t := s.setCycle (setAttempts b k s.cycle)
  let w := readWords t (blockAddr t.params b) (blockCount b)
  let u := readRegisters t (blockAddr t.params b) (blockCount b)
  if w.length = blockCount b then storeBlock b w u else failAttempt b k u

/-- The alarm-clear path (43 R302). -/
def alarmClearPath (s : State) : State :=
  let t := alarmStep false 0 s
  if t.params.clearCodeOnAlarmClear then
    (t.setSample { t.sample with errorCode := 0 }).setValid { t.valid with err := true }
  else t

/-- Whether the cycle has made no attempt yet. -/
def atCycleStart (s : State) : Bool := s.seq.blk == .speed && s.seq.att == 0

/-- One atomic step of a poll cycle (43 R291, R305): at its start on a closed link it completes NOT_CONNECTED (log 10). -/
def pollStep (s : State) : State :=
  if atCycleStart s && !s.connected then complete .notConnected s
  else
    match s.seq.blk with
    | .speed => attemptBlock .speed s
    | .torque => attemptBlock .torque s
    | .io => attemptBlock .io s
    | .alarm => goto .finish (alarmClearPath s)
    | .err => attemptBlock .err s
    | .finish => complete .ok s

/-- POLL_CYCLE (43 R291): its next atomic step. -/
def execPollCycle (s : State) : Host.Outcome State Fault Refusal := .next (pollStep s)

end Sys2Proof.Machine
end

