-- ==== Sys2Proof/Machine/Transport.lean ====
section
/-! DEFINITION. The Transport commands (41): CONNECT, READ_REGS, WRITE_REG, TEARDOWN. Each body is one atomic step of the
running command, its completion in that step (70 R430, log 6). -/

namespace Sys2Proof.Machine

/-- The draw the next CONNECT meets (41 R211, R212): the scripted one while the script lasts, a free value after it
(log 4). -/
def nextDraw (s : State) : ConnectDraw :=
  match s.env.connectScript with
  | d :: _ => d
  | [] => Config.connectOracle s.params.targetNo s.env.connectCount

/-- The environment after a draw (log 4). -/
def Env.drawn (e : Env) : Env :=
  { e with connectScript := e.connectScript.tail, connectCount := e.connectCount + 1 }

/-- The link opened with a configuration (41 R211). -/
def openLink (cfg : LinkCfg) (s : State) : State := (s.setLinkcfg cfg).setLink .connected

/-- The body of CONNECT (41 R211). -/
def connectBody (cfg : LinkCfg) (s : State) : State :=
  if s.connected then complete .alreadyConnected s
  else if cfg.baud = 7 ∨ cfg.slave = 0 then complete .cfgInvalid s
  else
    let t := s.setEnv s.env.drawn
    match nextDraw s with
    | .ok => complete .ok (openLink cfg t)
    | .openFailed => complete .openFailed t
    | .linkFailed => complete .linkFailed t

/-- A failed READ_REGS (41 R220). -/
def readFailed (c : Cause) (s : State) : State := complete c (s.setResLen 0)

/-- The words of a successful READ_REGS in RES, the others kept (41 R220, 10 R38). -/
def storeRes (ws : List Word) (s : State) : State :=
  (s.setRes (ws ++ s.res.drop ws.length)).setResLen (BitVec.ofNat 8 ws.length)

/-- The body of READ_REGS (41 R220, R221). -/
def readRegsBody (count : BitVec 8) (addr : Word) (s : State) : State :=
  if !s.connected then readFailed .notConnected s
  else if !countInRange s count.toNat then readFailed .countRange s
  else
    let t := transact s (readRequest s addr count.toNat)
    match nextVerdict s (readRequest s addr count.toNat) with
    | .ok ws => complete .ok (storeRes ws t)
    | .slaveException _ => readFailed .xferFailed t
    | .failed _ => readFailed .xferFailed t

/-- The body of WRITE_REG (41 R230). -/
def writeRegBody (addr value : Word) (s : State) : State :=
  if !s.connected then complete .notConnected s
  else
    let t := writeRegister s addr value
    if writeSucceeds s addr value then complete .ok (t.setStatus (writeOkFlags t.status))
    else complete .xferFailed t

/-- The body of TEARDOWN (41 R240). -/
def teardownBody (s : State) : State :=
  if !s.connected then complete .ok s else complete .ok (s.setLink .disconnected)

/-- CONNECT (41 R211). -/
def execConnect (baud : BitVec 3) (slave : BitVec 5) (verbose : Bool) (s : State) :
    Host.Outcome State Fault Refusal :=
  .next (connectBody ⟨baud, slave, verbose⟩ s)

/-- READ_REGS (41 R220). -/
def execReadRegs (count : BitVec 8) (addr : Word) (s : State) : Host.Outcome State Fault Refusal :=
  .next (readRegsBody count addr s)

/-- WRITE_REG (41 R230). -/
def execWriteReg (addr value : Word) (s : State) : Host.Outcome State Fault Refusal :=
  .next (writeRegBody addr value s)

/-- TEARDOWN (41 R240). -/
def execTeardown (s : State) : Host.Outcome State Fault Refusal := .next (teardownBody s)

end Sys2Proof.Machine
end

