-- ==== Sys2Proof/Machine/Dispatch.lean ====
section
/-! DEFINITION. The meaning of each command: the next atomic step of the command that is running (70 R430). -/

namespace Sys2Proof.Machine

def exec (i : Instr) (s : State) : Host.Outcome State Fault Refusal :=
  match i with
  | .connect baud slave verbose => Sys2Proof.Machine.execConnect baud slave verbose s
  | .readRegs count addr => Sys2Proof.Machine.execReadRegs count addr s
  | .writeReg addr value => Sys2Proof.Machine.execWriteReg addr value s
  | .pollCycle => Sys2Proof.Machine.execPollCycle s
  | .teardown => Sys2Proof.Machine.execTeardown s

end Sys2Proof.Machine
end

