-- ==== Sys2Proof/Machine/Step.lean ====
section
/-! DEFINITION. One step of the machine: the host's next action, or one atomic step of the engine (60 R370, 70 R430). -/

namespace Sys2Proof.Machine

/-- The rest of the agenda is left to do. -/
def State.withAgenda (s : State) (a : List HostAction) : State := s.setEnv { s.env with agenda := a }

/-- One atomic step of the engine: of the command in CUR while one is running (10 R56), nothing while IDLE (log 5). -/
def engineStep (s : State) : Host.Outcome State Fault Refusal :=
  if s.busy then
    match decode s.seq.cur with
    | .ok i => exec i s
    | .error _ => .fault .noCommand
  else .next s

/-- One step. The host's next action stands before an engine step or lets it happen; with no action left the engine
goes on alone (60 R370, log 5). -/
def step (s : State) : Host.Outcome State Fault Refusal :=
  match s.env.agenda with
  | [] => engineStep s
  | .turn :: rest => engineStep (s.withAgenda rest)
  | .sync :: rest => if s.busy then engineStep s else .next (s.withAgenda rest)
  | .write n v :: rest => .next (writeReg n v (s.withAgenda rest))
  | .reset :: rest => .next (resetNow (s.withAgenda rest))

/-- The agenda with one engine step before everything else. -/
def engineFirst : List HostAction → List HostAction
  | [] => []
  | a => .turn :: a

/-- `s` with the command word accepted as 60 R362 says, so that the very next step runs it: the engine fetches nothing,
it runs the word in CUR (20 R118, log 5). A command that was running is abandoned for it. -/
def State.withFetchWord (s : State) (nbits w : Nat) : State :=
  accept (tableWord nbits w)
    ((s.setSeq { s.seq with phase := .idle }).withAgenda (engineFirst s.env.agenda))

end Sys2Proof.Machine
end

