-- ==== Sys2Proof/Machine/Assembler.lean ====
section
/-! DEFINITION. The text form of command programs (30 R138): a line of text to a command, to SYNC or to a scripted line
outcome, and a listing to the host's agenda. What 30 R138 leaves open of the text is log 22. -/

namespace Sys2Proof.Machine

/-- What a line of a listing stands for (30 R138). -/
inductive AsmItem where
  | command (i : Instr)
  | sync
  | outcome (o : RxOutcome)
  deriving DecidableEq, Repr

/-- An operand that fits a field; an operand too wide for it is an assembly error (30 R138). -/
def fitField (w n : Nat) : Option (BitVec w) := if n < 2 ^ w then some (BitVec.ofNat w n) else none

/-- The code of a rate of BAUD_SET, by its place in the set (00 R9, 30 R124). -/
def baudCodeOf (rate : Nat) : Option (BitVec 3) :=
  (baudSet.findIdx? fun r => r == rate).map fun i => BitVec.ofNat 3 i

/-- The pieces of a text between a separator. -/
def splitAtChar (sep : Char) : List Char → List (List Char)
  | [] => [[]]
  | c :: cs =>
    match splitAtChar sep cs with
    | [] => [[c]]
    | piece :: pieces => if c = sep then [] :: piece :: pieces else (c :: piece) :: pieces

/-- A text without the spaces before and after it. -/
def trimSpaces (cs : List Char) : List Char :=
  ((cs.dropWhile fun c => c == ' ').reverse.dropWhile fun c => c == ' ').reverse

/-- The pieces of a text between spaces. -/
def wordsOf (cs : List Char) : List (List Char) := (splitAtChar ' ' cs).filter fun w => !w.isEmpty

/-- A hexadecimal digit, in lower case. -/
def digitOf (c : Char) : Option Nat :=
  if '0' ≤ c ∧ c ≤ '9' then some (c.toNat - '0'.toNat)
  else if 'a' ≤ c ∧ c ≤ 'f' then some (c.toNat - 'a'.toNat + 10)
  else none

/-- Digits of a base, the value so far given. -/
def digitsOf (base : Nat) : Nat → List Char → Option Nat
  | v, [] => some v
  | v, c :: cs =>
    match digitOf c with
    | some d => if d < base then digitsOf base (v * base + d) cs else none
    | none => none

/-- A decimal or `0x` hexadecimal operand (30 R138). -/
def numberOf : List Char → Option Nat
  | [] => none
  | ['0', 'x'] => none
  | '0' :: 'x' :: cs => digitsOf 16 0 cs
  | cs => digitsOf 10 0 cs

/-- The value of an operand `name=<number>`. 30 R138 says that a `<rate>` is written in decimal and leaves open whether one in
hexadecimal is an error: reading it like any other operand is a DESIGN CHOICE (log 22). -/
def namedNumberOf (name : List Char) (cs : List Char) : Option Nat :=
  match splitAtChar '=' cs with
  | [key, value] => if trimSpaces key = name then numberOf (trimSpaces value) else none
  | _ => none

/-- A byte written as two hexadecimal digits. -/
def hexByteOf : List Char → Option Byte
  | [a, b] =>
    match digitOf a, digitOf b with
    | some h, some l => some (BitVec.ofNat 8 (16 * h + l))
    | _, _ => none
  | _ => none

/-- The scripted frame of an RX line (30 R138); `RX!` marks a receive error (95, Notation). -/
def rxItem (rxErr : Bool) (ws : List (List Char)) : Option AsmItem :=
  match ws.mapM hexByteOf with
  | some (b :: bs) => some (.outcome (.frame b bs rxErr))
  | _ => none

/-- A CONNECT from its rate and slave (30 R121, R138). A slave that fits the field assembles, slave 0 too: DESIGN CHOICE
(log 22). -/
def connectItem (rate slave : Option Nat) (verbose : Bool) : Option AsmItem :=
  match rate.bind baudCodeOf, slave.bind (fitField 5) with
  | some b, some sl => some (.command (.connect b sl verbose))
  | _, _ => none

/-- A READ from its operands (30 R122, R138). A count that fits the field assembles, 0 and counts above MAX_BLOCK too: DESIGN
CHOICE (log 22). -/
def readItem (addr count : Option Nat) : Option AsmItem :=
  match addr.bind (fitField 16), count.bind (fitField 8) with
  | some a, some n => some (.command (.readRegs n a))
  | _, _ => none

/-- A WRITE from its operands (30 R123, R138). -/
def writeItem (addr value : Option Nat) : Option AsmItem :=
  match addr.bind (fitField 16), value.bind (fitField 16) with
  | some a, some v => some (.command (.writeReg a v))
  | _, _ => none

/-- A line by its mnemonic, its operand text and the words of that text (30 R138). -/
def itemOf (mnemonic : List Char) (operands : List (List Char)) (ws : List (List Char)) : Option AsmItem :=
  if mnemonic = ['p', 'o', 'l', 'l'] then if ws = [] then some (.command .pollCycle) else none
  else if mnemonic = ['t', 'e', 'a', 'r', 'd', 'o', 'w', 'n'] then
    if ws = [] then some (.command .teardown) else none
  else if mnemonic = ['s', 'y', 'n', 'c'] then if ws = [] then some .sync else none
  else if mnemonic = ['r', 'x', '!'] then rxItem true ws
  else if mnemonic = ['r', 'x'] then
    if ws = [['t', 'i', 'm', 'e', 'o', 'u', 't']] then some (.outcome .timeout) else rxItem false ws
  else
    match operands with
    | [a, b] =>
      if mnemonic = ['r', 'e', 'a', 'd'] then readItem (numberOf a) (numberOf b)
      else if mnemonic = ['w', 'r', 'i', 't', 'e'] then writeItem (numberOf a) (numberOf b)
      else if mnemonic = ['c', 'o', 'n', 'n', 'e', 'c', 't'] then
        connectItem (namedNumberOf ['b', 'a', 'u', 'd'] a) (namedNumberOf ['s', 'l', 'a', 'v', 'e'] b) false
      else none
    | [a, b, c] =>
      if mnemonic = ['c', 'o', 'n', 'n', 'e', 'c', 't'] ∧ c = ['v', 'e', 'r', 'b', 'o', 's', 'e'] then
        connectItem (namedNumberOf ['b', 'a', 'u', 'd'] a) (namedNumberOf ['s', 'l', 'a', 'v', 'e'] b) true
      else none
    | _ => none

/-- One line of a listing; none is an assembly error (30 R138). -/
def assembleLine (line : List Char) : Option AsmItem :=
  let text := trimSpaces (line.map Char.toLower)
  let mnemonic := text.takeWhile fun c => c != ' '
  let rest := text.dropWhile fun c => c != ' '
  itemOf mnemonic ((splitAtChar ',' rest).map trimSpaces) (wordsOf rest)

/-- What one line asks of the host (30 R138): a command is one write to CMD, SYNC waits for BUSY = 0. -/
def hostActionsOf : AsmItem → List HostAction
  | .command i => [.write 0 (encode i)]
  | .sync => [.sync]
  | .outcome _ => []

/-- What one line scripts of the line (30 R138). -/
def outcomesOf : AsmItem → List RxOutcome
  | .command _ => []
  | .sync => []
  | .outcome o => [o]

/-- A listing given to the host: its actions and the outcomes it scripts follow those already there (log 5).
Each transaction takes the oldest outcome left, wherever its RX line stands in the listing: DESIGN CHOICE (log 22). -/
def loadListing (items : List AsmItem) (s : State) : State :=
  s.setEnv { s.env with
    agenda := s.env.agenda ++ items.flatMap hostActionsOf
    rxScript := s.env.rxScript ++ items.flatMap outcomesOf }

end Sys2Proof.Machine
end

