-- ==== Sys2Proof/Machine/Line.lean ====
section
/-! DEFINITION. The serial line below the frames: the 8E1 character (40 R170), receive errors and frame delimitation
(40 R180, R181), and the line times (40 R171, R177, 70 R440). `Transact` delivers whole frames (20 R96) and no step reads
a time (70 R440), so nothing here is called by a step: it says what the outcomes of 20 R96 stand for (log 18). -/

namespace Sys2Proof.Machine

/-- The eight data bits in the order they are sent, least significant first (40 R170). -/
def dataBits (b : Byte) : List Bool := (List.range 8).map fun i => b.getLsbD i

/-- The even-parity bit (40 R170). -/
def evenParity (b : Byte) : Bool := (dataBits b).foldl xor false

/-- The eleven line bits of a byte, in time order: start, data, parity, stop (40 R170). -/
def charBits (b : Byte) : List Bool := false :: dataBits b ++ [evenParity b, true]

/-- The line bits of a frame sent as one burst (40 R177). -/
def lineBits (bs : List Byte) : List Bool := bs.flatMap charBits

/-- The level of the line while nothing is sent (40 R170). -/
def idleLevel : Bool := true

/-- The level of the line in bit time `t`, where the one burst sent begins in bit time `start`: the bits of the burst, and
idle before and after it (40 R170, R177). -/
def lineLevel (start : Nat) (bs : List Byte) (t : Nat) : Bool :=
  if t < start then idleLevel else (lineBits bs).getD (t - start) idleLevel

/-- The silence before a received character (40 R180, R181). -/
inductive Gap where
  /-- At most 1.5 character times. -/
  | within
  /-- More than 1.5 and less than 3.5 character times. -/
  | broken
  /-- At least 3.5 character times. -/
  | silence
  deriving DecidableEq, Repr

/-- A character as the receiver samples it (40 R170, R181). -/
structure RxChar where
  gap : Gap
  data : Byte
  parity : Bool
  stop : Bool
  deriving DecidableEq, Repr

/-- A parity error or a framing error (40 R181). -/
def RxChar.bad (c : RxChar) : Bool := c.parity != evenParity c.data || !c.stop

/-- The character sampled from eleven line bits that begin with a start bit (40 R170). -/
def sampleChar (gap : Gap) : List Bool → Option RxChar
  | [false, d0, d1, d2, d3, d4, d5, d6, d7, p, st] =>
      some ⟨gap, BitVec.ofBoolListLE [d0, d1, d2, d3, d4, d5, d6, d7], p, st⟩
  | _ => none

/-- The characters of a frame sent without error after a silence (40 R177). -/
def sentChars : List Byte → List RxChar
  | [] => []
  | b :: bs => ⟨.silence, b, evenParity b, true⟩ :: bs.map fun c => ⟨.within, c, evenParity c, true⟩

/-- The first frame of a stream of characters (40 R180): it starts at the first character after a silence, so characters
before that belong to no frame, and it ends at the next silence. -/
def firstFrame (cs : List RxChar) : List RxChar :=
  match cs.dropWhile fun d => d.gap != .silence with
  | [] => []
  | c :: rest => c :: rest.takeWhile fun d => d.gap != .silence

/-- `rx_err` of a frame (40 R181). The gap before its first character is the silence that delimits it. -/
def frameRxErr : List RxChar → Bool
  | [] => false
  | c :: cs => c.bad || cs.any fun d => d.bad || d.gap == .broken

/-- The outcome a stream of received characters stands for (40 R180, R181, 20 R96). -/
def receiveChars (cs : List RxChar) : RxOutcome :=
  match firstFrame cs with
  | [] => .timeout
  | c :: rest => .frame c.data (rest.map RxChar.data) (frameRxErr (c :: rest))

/-- The bit time in microseconds (40 R171). -/
def bitMicros (rate : Nat) : Rat := 1000000 / rate

/-- The character time in microseconds, eleven bits (40 R171, 70 R440). -/
def charMicros (rate : Nat) : Rat := 11 * bitMicros rate

/-- T1.5 in microseconds (40 R180, 70 R440). -/
def t15Micros (rate : Nat) : Rat := if 19200 < rate then 750 else 3 / 2 * charMicros rate

/-- T3.5 in microseconds (40 R180, 70 R440). -/
def t35Micros (rate : Nat) : Rat := if 19200 < rate then 1750 else 7 / 2 * charMicros rate

/-- The time of a frame of `n` bytes in microseconds (70 R440). -/
def frameMicros (rate n : Nat) : Rat := n * charMicros rate

/-- The kind of a silence of a given length (40 R180, R181). -/
def gapOf (rate : Nat) (micros : Rat) : Gap :=
  if t35Micros rate ≤ micros then .silence else if t15Micros rate < micros then .broken else .within

end Sys2Proof.Machine
end

