-- ==== Sys2Proof/Machine/Platform.lean ====
section
/-! DEFINITION. Several instances (60 R395, R396, 20 R114): a list of states that share nothing but, where their line
numbers agree, a line (93 I6). A transaction is one atomic step, so an order of whole steps serialises the transactions
of every line. Instances also step concurrently, in rounds: on one line at most one instance of a round makes a
transaction. Which instances step in a round, and which of a line goes first, is open: every fair choice is admitted
(log 20). -/

namespace Sys2Proof.Machine

/-- N_TARGETS instances, each right after reset, numbered as the platform numbers them (60 R395). There is at least one
(00 R9), and its parameters stand apart. Each instance's line is a parameter of it (93 I6). -/
def platformReset (first : Params) (others : List Params) : List State :=
  (first :: others).mapIdx fun i p => State.resetWith { p with targetNo := i } Env.quiet

/-- The parameters of a platform are legal when those of each instance are (00 R9). -/
def platformWf (first : Params) (others : List Params) : Bool := (first :: others).all Params.wf

/-- N_TARGETS of a platform (00 R9). -/
def nTargets (p : List State) : Nat := p.length

/-- One step of the instance with the number `k`; a number that no instance has does nothing. -/
def platformStep (k : Nat) (p : List State) : Host.Outcome (List State) Fault Refusal :=
  match p[k]? with
  | none => .next p
  | some s =>
    match step s with
    | .next t => .next (p.set k t)
    | .fault r => .fault r
    | .refused r => .refused r

/-- The steps of a schedule, one instance number at a time. -/
def platformRun : List Nat → List State → Host.Outcome (List State) Fault Refusal
  | [], p => .next p
  | k :: ks, p =>
    match platformStep k p with
    | .next q => platformRun ks q
    | .fault r => .fault r
    | .refused r => .refused r

/-! The lines. -/

/-- The instances `j` and `k` share a line (60 R395, 93 I6). -/
def sameLine (p : List State) (j k : Nat) : Bool :=
  match p[j]?, p[k]? with
  | some s, some t => s.params.lineNo == t.params.lineNo
  | _, _ => false

/-- The next step of the instance makes a transaction (20 R96): it uses the line. -/
def transacts (s : State) : Bool :=
  match step s with
  | .next t => t.env.txCount != s.env.txCount
  | .fault _ => false
  | .refused _ => false

/-- The next step of the instance with the number `k` makes a transaction. -/
def transactsAt (p : List State) (k : Nat) : Bool :=
  match p[k]? with
  | some s => transacts s
  | none => false

/-- Two turns that cannot stand in one round: two of one instance, or two transactions on one line (20 R114). -/
def conflict (p : List State) (j k : Nat) : Bool :=
  j == k || (sameLine p j k && transactsAt p j && transactsAt p k)

/-- The turns of a round that take place, the numbers in `chosen` having theirs already: an instance whose line is taken
waits (20 R114). What a turn does depends on its own instance alone, so all are judged in the state before the round. -/
def admitted (p : List State) (chosen : List Nat) : List Nat → List Nat
  | [] => []
  | k :: ks =>
    if chosen.any fun j => conflict p j k then admitted p chosen ks else k :: admitted p (k :: chosen) ks

/-- One round: the instances named step concurrently, the first of a line to be named having the line. -/
def platformRound (ks : List Nat) (p : List State) : Host.Outcome (List State) Fault Refusal :=
  platformRun (admitted p [] ks) p

/-- The platform after `n` rounds of an endless schedule, the first of them `rounds i`. -/
def platformRounds (rounds : Nat → List Nat) : Nat → Nat → List State → Host.Outcome (List State) Fault Refusal
  | _, 0, p => .next p
  | i, n + 1, p =>
    match platformRound (rounds i) p with
    | .next q => platformRounds rounds (i + 1) n q
    | .fault r => .fault r
    | .refused r => .refused r

/-- A schedule is fair to a platform when every instance has a turn again and again (20 R114, 93 I6). -/
def FairRounds (rounds : Nat → List Nat) (p : List State) : Prop :=
  ∀ k, k < nTargets p → ∀ n, ∃ m, n ≤ m ∧
    ∀ q, platformRounds rounds 0 m p = .next q → k ∈ admitted q [] (rounds m)

/-- The sequential multiplexing of 60 R395: one instance a round, in the order of their numbers. -/
def roundRobin (targets : Nat) (i : Nat) : List Nat := [i % targets]

end Sys2Proof.Machine
end

