-- ==== Sys2Proof/WellFormed.lean ====
section
/-! DEFINITION. Which commands have operands in their legal ranges (30 R128, last sentence). Every `Instr` is encodable,
because each operand has the width of its field; a command whose operand is out of range decodes too, and its own rule
refuses it (41 R211, R221). So this check is about operands, and neither decoding nor `exec` depends on it. -/

namespace Sys2Proof

/-- A baud code that encodes a rate (30 R124). -/
def Instr.baudLegal (baud : BitVec 3) : Bool := baud != 7#3

/-- A slave address 1..31 (00 R9). -/
def Instr.slaveLegal (slave : BitVec 5) : Bool := slave != 0#5

/-- A register count 1..MAX_BLOCK (41 R221). -/
def Instr.countLegal (maxBlock : Nat) (count : BitVec 8) : Bool :=
  decide (1 ≤ count.toNat) && decide (count.toNat ≤ maxBlock)

/-- Every operand of the command is in its legal range, for an instance with this MAX_BLOCK. -/
def Instr.wellFormed (maxBlock : Nat) : Instr → Bool
  | .connect baud slave _ => baudLegal baud && slaveLegal slave
  | .readRegs count _ => countLegal maxBlock count
  | .writeReg _ _ => true
  | .pollCycle => true
  | .teardown => true

end Sys2Proof
end

