-- ==== Sys2Proof/Safety.lean ====
section
/-! DEFINITION. What the rules keep true of an instance: the invariant of 10 (R36 to R58), 43 R307 and 44 R330, field by
field. A statement that could fail only in states no run reaches takes it as a premise. -/

namespace Sys2Proof.Machine

/-- VALID bits and their registers: while a bit is 0 its registers hold their reset value 0 (10 R40). -/
def validInv (v : Valid) (d : Sample) : Prop :=
  (v.speed = false → d.speedCmd = 0 ∧ d.speedFb = 0 ∧ d.speedDev = 0) ∧
  (v.torque = false → d.torqueCmd = 0 ∧ d.torqueFb = 0 ∧ d.torqueDev = 0) ∧
  (v.io = false → d.din = 0 ∧ d.dout = 0) ∧
  (v.err = false → d.errorCode = 0)

/-- The auxiliary registers are never written and VALID.AUX is never set (10 R44). -/
def auxInv (v : Valid) (d : Sample) : Prop :=
  v.aux = false ∧ d.dcBusV = 0 ∧ d.torqueLoad = 0 ∧ d.brakeDuty = 0 ∧ d.torqueOvl = 0

/-- CYCLE_RESULT: at most RETRY_CEILING attempts of a block; the alarm bit is evaluated exactly when the IO block
succeeded; the error path only after that, and its success only inside it (10 R39). -/
def cycleInv (c : CycleResult) : Prop :=
  c.speedAtt.toNat ≤ retryCeiling ∧ c.torqueAtt.toNat ≤ retryCeiling ∧ c.ioAtt.toNat ≤ retryCeiling ∧
  c.errAtt.toNat ≤ retryCeiling ∧ c.alarmEval = c.ioOk ∧ (c.errTried = true → c.alarmEval = true) ∧
  (c.errOk = true → c.errTried = true)

/-- LINKCFG of an open link is a legal configuration (10 R36, 41 R211). -/
def linkInv (s : State) : Prop :=
  s.link = .connected → Instr.baudLegal s.linkcfg.baud = true ∧ Instr.slaveLegal s.linkcfg.slave = true

/-- The sequencer (10 R56): while a command runs, CUR holds a command word and PHASE is that command's; fewer than
RETRY_CEILING attempts of the current block were made; a cycle past its start runs on an open link (43 R291). -/
def seqInv (s : State) : Prop :=
  s.seq.cur = s.cmd ∧ s.seq.att < retryCeiling ∧
  (s.busy = true → s.status.done = false ∧ ∃ i, decode s.seq.cur = .ok i ∧ s.seq.phase = phaseOf i) ∧
  (s.seq.phase = .cycle → atCycleStart s = false → s.link = .connected) ∧
  (s.seq.phase = .cycle → s.seq.blk = .err → s.cycle.errTried = true)

/-- The notification registers and the trace agree (10 R48, R58), and the trace holds only nonzero codes, each with its
message (44 R340, R341). -/
def notifyInv (s : State) : Prop :=
  s.notifyCount = BitVec.ofNat 32 s.notifyTrace.length ∧
  s.notifyCode = ((s.notifyTrace.getLast?.map Notify.code).getD 0) ∧
  ∀ n ∈ s.notifyTrace, n.code ≠ 0 ∧ n.msg = faultMsg s.params n.code

/-- The whole invariant of an instance with legal parameters. -/
structure State.Inv (s : State) : Prop where
  params : s.params.wf = true
  res : s.res.length = s.params.maxBlock
  resLen : s.resLen.toNat ≤ s.params.maxBlock
  valid : validInv s.valid s.sample
  aux : auxInv s.valid s.sample
  cycle : cycleInv s.cycle
  fault : s.faultState ≠ .faulted 0
  link : linkInv s
  seq : seqInv s
  notify : notifyInv s

/-- No outcome of a step but a next state is a safe one. -/
def safeOutcome : Host.Outcome State Fault Refusal → Prop
  | .next t => t.Inv
  | .fault _ => False
  | .refused _ => False

/-- The machine after `n` steps of the engine alone: the host does nothing (log 5). -/
def engineRun (n : Nat) (s : State) : Host.Outcome State Fault Refusal :=
  Host.Core.run ⟨State, Fault, Refusal, engineStep, State.reset⟩ n s

end Sys2Proof.Machine
end

