-- ==== Sys2Proof/Certificates/Slice0/Obligations.lean ====
section
/-! DEFINITION. The statements about the LA4 RTU engine, for the provers. A statement of a command's result gives the whole
next state as an update of the state before it, so its frame is every field the update does not name. -/

open Sys2Proof Sys2Proof.Machine

namespace Sys2Proof.Claims

/-! Words the statements share. -/

/-- The model's own fields after one transaction: one outcome used, one frame sent. -/
def envAfter (s : State) (req : List Byte) : Env :=
  { s.env with rxScript := s.env.rxScript.tail, txCount := s.env.txCount + 1, sent := s.env.sent ++ [req] }

/-- The request frame 30 R131, R133 write byte by byte, with its CRC low byte first. -/
def frame8 (s : State) (fc : Byte) (a b : Word) : List Byte :=
  let p := [s.linkcfg.slave.setWidth 8, fc, a.extractLsb' 8 8, a.extractLsb' 0 8, b.extractLsb' 8 8, b.extractLsb' 0 8]
  p ++ [(crc16 s.params.crcProfile p).extractLsb' 0 8, (crc16 s.params.crcProfile p).extractLsb' 8 8]

/-- What `validate` says of the line's answer to the next transaction, when it sends `req`. -/
def verdict (s : State) (req : List Byte) : Verdict := validate s.params.crcProfile req (outcomeAt s 0 req)

/-- The request of a poll block (43 R295). -/
def blockRequest (s : State) (b : Blk) : List Byte :=
  frame8 s 0x03 (blockAddr s.params b) (BitVec.ofNat 16 (blockCount b))

/-- The blocks that read the slave. -/
def isDataBlock (b : Blk) : Prop := b = .speed ∨ b = .torque ∨ b = .io ∨ b = .err

/-- What the successful attempt of a block with the words `ws` leaves in `t`, for a state `s` before the block and the
CYCLE_RESULT `c` with the attempt counted (43 R297, R298, R301, R303). -/
def blockStored (b : Blk) (ws : List Word) (s t : State) (c : CycleResult) : Prop :=
  match b, ws with
  | .speed, [w0, w1, w2] =>
    t.sample = { s.sample with speedCmd := w0, speedFb := w1, speedDev := w2 } ∧
      t.valid = { s.valid with speed := true } ∧ t.cycle = { c with speedOk := true } ∧
      t.faultState = s.faultState ∧ t.seq.blk = .torque
  | .torque, [w0, w1, w2] =>
    t.sample = { s.sample with torqueCmd := w0, torqueFb := w1, torqueDev := w2 } ∧
      t.valid = { s.valid with torque := true } ∧ t.cycle = { c with torqueOk := true } ∧
      t.faultState = s.faultState ∧ t.seq.blk = .io
  | .io, [w0, w1] =>
    t.sample = { s.sample with din := w0.extractLsb' 0 8, dout := w1.extractLsb' 0 6 } ∧
      t.valid = { s.valid with io := true } ∧
      t.cycle = { c with ioOk := true, alarmEval := true, errTried := w1.getLsbD 1 || c.errTried } ∧
      t.faultState = s.faultState ∧ t.seq.blk = if w1.getLsbD 1 then .err else .alarm
  | .err, [e] =>
    t.sample = { s.sample with errorCode := e } ∧ t.valid = { s.valid with err := true } ∧
      t.cycle = { c with errOk := true } ∧ t.faultState = (if e = 0 then .clear else .faulted e) ∧
      t.seq.blk = .finish
  | _, _ => False

/-- A running POLL_CYCLE, on an open link. -/
def inCycle (s : State) : Prop := s.seq.phase = .cycle ∧ s.seq.cur = 4#64 ∧ s.link = .connected

/-- The host's next action is not a reset. -/
def noReset (s : State) : Prop := ∀ rest, s.env.agenda ≠ .reset :: rest

/-- `sat_inc32` applied `n` times, as a number (00 R13). -/
def tallyPlus (x : Word32) (n : Nat) : Nat := min (x.toNat + n) (2 ^ 32 - 1)

/-- The phase of a command by its opcode (60 R362). -/
def phaseOfOp (w : CmdWord) : Phase :=
  match w.toNat % 256 with
  | 1 => .connecting
  | 2 => .xfer
  | 3 => .xfer
  | 4 => .cycle
  | _ => .tearing

/-- The width of an assigned register number, 0 for an unassigned one (10 R33). -/
def regWidth (maxBlock n : Nat) : Nat :=
  if n = 0 then 64
  else if n = 3 ∨ n = 5 ∨ n = 16 then 8
  else if n = 17 then 6
  else if n = 1 ∨ n = 2 ∨ n = 4 ∨ (19 ≤ n ∧ n ≤ 21) ∨ n = 23 ∨ n = 24 then 32
  else if n ≤ 22 ∨ (32 ≤ n ∧ n < 32 + maxBlock) then 16
  else 0

end Sys2Proof.Claims

open Sys2Proof.Claims

/-! ## Encoding (30) -/

/-- Decoding the word of a command gives the command back, every operand with every value its field admits (30 R120 to
R127). -/
def Obligations.DecodeOfEncodeIsTheCommand : Prop :=
  ∀ i : Instr, decode (encode i) = .ok i

/-- A word that decodes is the word of what it decodes to: each command has one word, and no bit is dropped (30 R120
to R128). -/
def Obligations.EncodeOfDecodeIsTheWord : Prop :=
  ∀ (w : CmdWord) (i : Instr), decode w = .ok i → encode i = w

/-- The opcode map (30 R127), row by row: a word is the command when it matches the row, and only then. Its operands
are their bit fields, unsigned, taken as they are (30 R126). -/
def Obligations.DecodeFollowsTheOpcodeMap : Prop :=
  ∀ w : CmdWord,
    (w &&& 0xFFFFFFFFFEE0F8FF#64 = 0x0000000000000001#64 ↔ ∃ b sl v, decode w = .ok (.connect b sl v)) ∧
    (w &&& 0xFFFFFFFF000000FF#64 = 0x0000000000000002#64 ↔ ∃ n a, decode w = .ok (.readRegs n a)) ∧
    (w &&& 0xFFFF00000000FFFF#64 = 0x0000000000000003#64 ↔ ∃ a v, decode w = .ok (.writeReg a v)) ∧
    (w &&& 0xFFFFFFFFFFFFFFFF#64 = 0x0000000000000004#64 ↔ decode w = .ok .pollCycle) ∧
    (w &&& 0xFFFFFFFFFFFFFFFF#64 = 0x0000000000000005#64 ↔ decode w = .ok .teardown) ∧
    (∀ b sl v, decode w = .ok (.connect b sl v) →
      b.toNat = w.toNat / 2 ^ 8 % 2 ^ 3 ∧ sl.toNat = w.toNat / 2 ^ 16 % 2 ^ 5 ∧ v = w.getLsbD 24) ∧
    (∀ n a, decode w = .ok (.readRegs n a) →
      n.toNat = w.toNat / 2 ^ 8 % 2 ^ 8 ∧ a.toNat = w.toNat / 2 ^ 16 % 2 ^ 16) ∧
    (∀ a v, decode w = .ok (.writeReg a v) →
      a.toNat = w.toNat / 2 ^ 16 % 2 ^ 16 ∧ v.toNat = w.toNat / 2 ^ 32 % 2 ^ 16)

/-- Which words are illegal (30 R128): OP is 0x00 or above 0x05, or a reserved bit of the format is 1, that is, the
word has an assigned OP and matches no row. -/
def Obligations.IllegalWordsAreThoseOffTheMap : Prop :=
  ∀ w : CmdWord,
    (decode w = .error .unknownOpcode ↔ (w.toNat % 256 = 0 ∨ 6 ≤ w.toNat % 256)) ∧
    (decode w = .error .reservedBit ↔
      (1 ≤ w.toNat % 256 ∧ w.toNat % 256 ≤ 5 ∧
        w &&& 0xFFFFFFFFFEE0F8FF#64 ≠ 0x0000000000000001#64 ∧ w &&& 0xFFFFFFFF000000FF#64 ≠ 0x0000000000000002#64 ∧
        w &&& 0xFFFF00000000FFFF#64 ≠ 0x0000000000000003#64 ∧ w ≠ 0x0000000000000004#64 ∧
        w ≠ 0x0000000000000005#64))

/-- The worked command encodings (30 R129): each text assembles to its command, whose word is the one of the table. -/
def Obligations.WorkedEncodingsAgree : Prop :=
  let row (text : String) (i : Instr) (w : CmdWord) : Prop :=
    assembleLine text.toList = some (.command i) ∧ encode i = w ∧ decode w = .ok i
  row "CONNECT baud=19200, slave=1" (.connect 3 1 false) 0x0000000000010301#64 ∧
  row "CONNECT baud=19200, slave=1, verbose" (.connect 3 1 true) 0x0000000001010301#64 ∧
  row "CONNECT baud=115200, slave=31" (.connect 6 31 false) 0x00000000001F0601#64 ∧
  row "READ 0x0010, 3" (.readRegs 3 0x0010) 0x0000000000100302#64 ∧
  row "READ 0x0000, 125" (.readRegs 125 0x0000) 0x0000000000007D02#64 ∧
  row "WRITE 0x0040, 0x1234" (.writeReg 0x0040 0x1234) 0x0000123400400003#64 ∧
  row "POLL" .pollCycle 0x0000000000000004#64 ∧
  row "TEARDOWN" .teardown 0x0000000000000005#64

/-! ## Command lifecycle (60) -/

/-- A step runs the command in CUR: with no host action left, when the host lets the engine have its turn, and while
the host waits in SYNC. That the host's actions are a list the step reads is the model's choice (log 5). -/
def Obligations.StepRunsTheRunningCommand : Prop :=
  ∀ (s : State) (i : Instr), s.busy = true → decode s.seq.cur = .ok i →
    (s.env.agenda = [] → step s = exec i s) ∧
    (∀ rest, s.env.agenda = .turn :: rest → step s = exec i (s.withAgenda rest)) ∧
    (∀ rest, s.env.agenda = .sync :: rest → step s = exec i s)

/-- What the host does is a step of its own before the engine's (60 R370), and an idle engine does nothing by itself
(43 R292); SYNC is over when the engine is idle. That the host's actions are a list the step reads is the model's
choice (log 5). -/
def Obligations.HostActsBetweenEngineSteps : Prop :=
  ∀ (s : State) (rest : List HostAction), let next : State := { s with env := { s.env with agenda := rest } }
    (∀ n v, s.env.agenda = .write n v :: rest → step s = .next (writeReg n v next)) ∧
    (s.env.agenda = .reset :: rest → step s = .next (resetNow next)) ∧
    (s.busy = false → s.env.agenda = [] → step s = .next s) ∧
    (s.busy = false → s.env.agenda = .turn :: rest → step s = .next next) ∧
    (s.busy = false → s.env.agenda = .sync :: rest → step s = .next next)

/-- Acceptance of a legal command word that the host writes to CMD (60 R362), its whole effect. The sequencer's start
of a poll cycle (log 9) and clearing CYCLE_RESULT in this step when the link is open (log 7) are the model's reading, and
so is that acceptance is a step of its own, which runs nothing of the command's body (log 6, from 70 R430). -/
def Obligations.AcceptanceStartsTheCommand : Prop :=
  ∀ (s : State) (w : CmdWord) (i : Instr), s.busy = false → decode w = .ok i →
    (i ≠ .pollCycle → writeReg 0 w s =
      { s with
        cmd := w
        status := { s.status with done := false, overrun := false, writeOk := false }
        seq := { s.seq with phase := phaseOfOp w, cur := w } }) ∧
    (i = .pollCycle → writeReg 0 w s =
      { s with
        cmd := w
        status := { s.status with done := false, overrun := false, writeOk := false }
        seq := { phase := .cycle, blk := .speed, att := 0, cur := w }
        cycle := if s.link = .connected then CycleResult.zero else s.cycle })

/-- An illegal command word that the host writes to CMD completes in its acceptance step (60 R367): only CMD, STATUS
and the sequencer's CUR move, and no frame is sent. -/
def Obligations.IllegalCommandCompletesAtAcceptance : Prop :=
  ∀ (s : State) (w : CmdWord) (e : DecodeError), s.busy = false → decode w = .error e →
    writeReg 0 w s =
      { s with
        cmd := w
        status := { s.status with done := true, overrun := false, writeOk := false, cause := .illegalCmd }
        seq := { s.seq with phase := .idle, cur := w } }

/-- A command word written while BUSY sets OVERRUN and does nothing else (60 R363). -/
def Obligations.BusyEngineDropsCommands : Prop :=
  ∀ (s : State) (w : CmdWord), s.busy = true →
    writeReg 0 w s = { s with status := { s.status with overrun := true } }

/-- The register-number space (10 R32, R33): which field each plain register reads, zero-extended; an unassigned number
reads 0, and a write to any number but 0 and 23 does nothing. A read has no side effect, because it is a function of the
state. -/
def Obligations.RegisterNumbersReadAndWrite : Prop :=
  (∀ s : State,
    readReg s 0 = s.cmd ∧ readReg s 3 = s.resLen.setWidth 64 ∧
    [6, 7, 8].map (readReg s) = [s.sample.speedCmd, s.sample.speedFb, s.sample.speedDev].map (BitVec.setWidth 64) ∧
    [9, 10, 11].map (readReg s) = [s.sample.torqueCmd, s.sample.torqueFb, s.sample.torqueDev].map (BitVec.setWidth 64) ∧
    [12, 13, 14, 15].map (readReg s) =
      [s.sample.dcBusV, s.sample.torqueLoad, s.sample.brakeDuty, s.sample.torqueOvl].map (BitVec.setWidth 64) ∧
    readReg s 16 = s.sample.din.setWidth 64 ∧ readReg s 17 = s.sample.dout.setWidth 64 ∧
    readReg s 18 = s.sample.errorCode.setWidth 64 ∧ readReg s 20 = s.errorTally.setWidth 64 ∧
    readReg s 21 = s.notifyCount.setWidth 64 ∧ readReg s 22 = s.notifyCode.setWidth 64 ∧
    readReg s 23 = s.pollIntervalUs.setWidth 64 ∧
    (∀ i, i < s.params.maxBlock → readReg s (32 + i) = (s.res.getD i 0).setWidth 64)) ∧
  (∀ (s : State) (n : Nat), (readReg s n).toNat < 2 ^ regWidth s.params.maxBlock n) ∧
  (∀ (s : State) (n : Nat) (v : BitVec 64), n ≠ 0 → n ≠ 23 → writeReg n v s = s)

/-- A host write to POLL_INTERVAL_US (10 R49). Taking the low 32 bits of the value is the model's choice (log 11). -/
def Obligations.PollIntervalIsWrittenByTheHost : Prop :=
  ∀ (s : State) (v : BitVec 64), writeReg 23 v s = { s with pollIntervalUs := v.extractLsb' 0 32 }

/-- EFF_INTERVAL_US is the clamped poll interval in every state (60 R392). -/
def Obligations.EffectiveIntervalIsClamped : Prop :=
  ∀ s : State, (readReg s 24).toNat = min (max s.pollIntervalUs.toNat 1000) 2000000

/-- STATUS bit by bit (10 R35), with the codes of its cause fields (60 R364, R365). -/
def Obligations.StatusReadsItsFields : Prop :=
  (∀ s : State,
    (readReg s 1).getLsbD 0 = decide (s.link = .connected) ∧
    (readReg s 1).getLsbD 1 = decide (s.seq.phase ≠ .idle) ∧
    (readReg s 1).getLsbD 2 = s.status.done ∧
    (readReg s 1).getLsbD 3 = s.status.overrun ∧
    (readReg s 1).getLsbD 4 = s.status.writeOk ∧
    (readReg s 1).extractLsb' 5 3 = 0 ∧
    (readReg s 1).extractLsb' 8 8 = causeCode s.status.cause ∧
    (readReg s 1).extractLsb' 16 8 = xferCauseCode s.status.xferCause ∧
    (readReg s 1).extractLsb' 24 8 = s.status.xferExc) ∧
  [Cause.ok, .illegalCmd, .notConnected, .alreadyConnected, .cfgInvalid, .openFailed, .linkFailed, .countRange,
    .xferFailed].map causeCode = [0, 1, 2, 3, 4, 5, 6, 7, 8] ∧
  [XferCause.ok, .timeout, .rxError, .malformed, .crcError, .badSlave, .slaveException, .badFunction, .badLength,
    .badEcho].map xferCauseCode = [0, 1, 2, 3, 4, 5, 6, 7, 8, 9]

/-- LINKCFG, CYCLE_RESULT, VALID and FAULT_STATE field by field, their reserved bits 0 (10 R36, R39, R40, R46). -/
def Obligations.PackedRegistersReadTheirFields : Prop :=
  ∀ s : State,
    ((readReg s 2).extractLsb' 0 3 = s.linkcfg.baud ∧ (readReg s 2).extractLsb' 3 5 = 0 ∧
      (readReg s 2).extractLsb' 8 5 = s.linkcfg.slave ∧ (readReg s 2).extractLsb' 13 3 = 0 ∧
      (readReg s 2).getLsbD 16 = s.linkcfg.verbose ∧ (readReg s 2).extractLsb' 17 47 = 0) ∧
    ((readReg s 4).getLsbD 0 = s.cycle.speedOk ∧ (readReg s 4).getLsbD 1 = s.cycle.torqueOk ∧
      (readReg s 4).getLsbD 2 = s.cycle.ioOk ∧ (readReg s 4).getLsbD 3 = s.cycle.errTried ∧
      (readReg s 4).getLsbD 4 = s.cycle.errOk ∧ (readReg s 4).getLsbD 5 = s.cycle.alarmEval ∧
      (readReg s 4).extractLsb' 6 2 = 0 ∧ (readReg s 4).extractLsb' 8 4 = s.cycle.speedAtt.setWidth 4 ∧
      (readReg s 4).extractLsb' 12 4 = s.cycle.torqueAtt.setWidth 4 ∧
      (readReg s 4).extractLsb' 16 4 = s.cycle.ioAtt.setWidth 4 ∧
      (readReg s 4).extractLsb' 20 44 = s.cycle.errAtt.setWidth 44) ∧
    ((readReg s 5).getLsbD 0 = s.valid.speed ∧ (readReg s 5).getLsbD 1 = s.valid.torque ∧
      (readReg s 5).getLsbD 2 = s.valid.io ∧ (readReg s 5).getLsbD 3 = s.valid.err ∧
      (readReg s 5).getLsbD 4 = s.valid.aux ∧ (readReg s 5).extractLsb' 5 59 = 0) ∧
    (s.faultState = .clear → readReg s 19 = 0) ∧
    (∀ c, s.faultState = .faulted c → (readReg s 19).getLsbD 0 = true ∧ (readReg s 19).extractLsb' 1 15 = 0 ∧
      (readReg s 19).extractLsb' 16 48 = c.setWidth 48)

/-! ## Reset (70) -/

/-- The values after reset (70 R411), for every choice of the instance parameters: every register reads 0 but
EFF_INTERVAL_US, the link is closed, the sequencer is at (IDLE, SPEED, 0, 0), the trace is empty. -/
def Obligations.ResetValuesAreTheSpecs : Prop :=
  ∀ (p : Params) (env : Env), let s := State.resetWith p env
    (∀ n, readReg s n = if n = 24 then 1000 else 0) ∧ s.link = .disconnected ∧ s.seq = ⟨.idle, .speed, 0, 0⟩ ∧
      s.notifyTrace = [] ∧ s.faultState = .clear

/-- Reset asserted in any state, a command running or not (70 R410): every piece of state the spec names is at its
reset value after it, and the instance parameters are what they were (70 R413). -/
def Obligations.ResetRestoresEverything : Prop :=
  ∀ s : State, let t := resetNow s
    (∀ n, readReg t n = if n = 24 then 1000 else 0) ∧ t.link = .disconnected ∧ t.seq = ⟨.idle, .speed, 0, 0⟩ ∧
      t.notifyTrace = [] ∧ t.faultState = .clear ∧ t.params = s.params

/-- No step changes an instance parameter, a reset neither (70 R413, 00 R9). -/
def Obligations.ParametersAreFixed : Prop :=
  ∀ s t : State, step s = .next t → t.params = s.params

/-! ## Invariants over every step -/

/-- The machine right after reset meets the invariant, and so does every instance with legal parameters. -/
def Obligations.ResetMeetsTheInvariant : Prop :=
  State.reset.Inv ∧ ∀ (p : Params) (env : Env), p.wf = true → (State.resetWith p env).Inv

/-- Every step, of the engine or of the host, keeps the invariant, whatever the line and the world outside answer. -/
def Obligations.EveryStepKeepsTheInvariant : Prop :=
  ∀ s t : State, s.Inv → step s = .next t → t.Inv

/-- No state that meets the invariant ends in a fault or a refusal: the block has no traps (60 R371). -/
def Obligations.NoSafeStateStops : Prop :=
  ∀ s : State, s.Inv → ∃ t, step s = .next t

/-- Every command completes (60 R366, 43 R305): the engine alone ends the running command within 21 steps, with at
most 20 transactions, in a state that meets the invariant. The count of steps rests on what the model takes for one step
(log 6). What `env` records of the line is the model's own (log 3, 14). -/
def Obligations.EveryCommandCompletes : Prop :=
  ∀ s : State, s.Inv → s.busy = true →
    ∃ n t, n ≤ 21 ∧ engineRun n s = .next t ∧ t.busy = false ∧ t.status.done = true ∧ t.Inv ∧
      t.env.sent.length ≤ s.env.sent.length + 20

/-- Only reset lowers them (10 R40, R47, 43 R307): a step leaves ERROR_TALLY or adds one to it, and clears no VALID
bit; AUX is never set. -/
def Obligations.TallyAndValidBitsOnlyRise : Prop :=
  ∀ s t : State, step s = .next t → noReset s →
    (s.errorTally.toNat ≤ t.errorTally.toNat ∧ t.errorTally.toNat ≤ s.errorTally.toNat + 1) ∧
    (s.valid.speed = true → t.valid.speed = true) ∧ (s.valid.torque = true → t.valid.torque = true) ∧
    (s.valid.io = true → t.valid.io = true) ∧ (s.valid.err = true → t.valid.err = true) ∧
    t.valid.aux = s.valid.aux

/-- Only a step of POLL_CYCLE, or a reset, writes DecodedSample, VALID, ERROR_TALLY, FAULT_STATE, the notification
registers or the trace (10 R31, R33, 41 R222, R231, 44 R343). -/
def Obligations.OnlyPollCycleWritesTheSample : Prop :=
  ∀ s t : State, step s = .next t → noReset s →
    (t.sample ≠ s.sample ∨ t.valid ≠ s.valid ∨ t.errorTally ≠ s.errorTally ∨ t.faultState ≠ s.faultState ∨
      t.notifyCount ≠ s.notifyCount ∨ t.notifyCode ≠ s.notifyCode ∨ t.notifyTrace ≠ s.notifyTrace) →
    s.busy = true ∧ decode s.seq.cur = .ok .pollCycle

/-- LINKCFG changes only where a CONNECT opens the link, and then it is that CONNECT's configuration (10 R36). -/
def Obligations.LinkConfigIsSetByConnectAlone : Prop :=
  ∀ s t : State, step s = .next t → noReset s → t.linkcfg ≠ s.linkcfg →
    s.link = .disconnected ∧ t.link = .connected ∧
      ∃ b sl v, s.busy = true ∧ decode s.seq.cur = .ok (.connect b sl v) ∧ t.linkcfg = ⟨b, sl, v⟩

/-- XFER_CAUSE and XFER_EXC (40 R184, 10 R35): a step that sends no frame leaves them; a step that sends one sends
exactly one, and writes them from the verdict on the line's answer to it. What `env` records of the line is the
model's own (log 3, 14). -/
def Obligations.TransactionFieldsFollowTheTransaction : Prop :=
  ∀ s t : State, step s = .next t → noReset s →
    (t.env.sent = s.env.sent ∧ t.status.xferCause = s.status.xferCause ∧ t.status.xferExc = s.status.xferExc) ∨
    (∃ req, t.env.sent = s.env.sent ++ [req] ∧ t.status.xferCause = (verdict s req).cause ∧
      t.status.xferExc = (verdict s req).exc)

/-- The registers of a block change only together, and only to the words of a response that carried exactly the
requested count (20 R107, 43 R307). ERROR_CODE changes only to the word of such a response, or to 0 in the alarm-clear
step (43 R302). -/
def Obligations.BlocksAreStoredWholeOrNotAtAll : Prop :=
  ∀ s t : State, step s = .next t → noReset s →
    ((t.sample.speedCmd ≠ s.sample.speedCmd ∨ t.sample.speedFb ≠ s.sample.speedFb ∨
        t.sample.speedDev ≠ s.sample.speedDev) →
      s.seq.blk = .speed ∧ verdict s (blockRequest s .speed) =
        .ok [t.sample.speedCmd, t.sample.speedFb, t.sample.speedDev]) ∧
    ((t.sample.torqueCmd ≠ s.sample.torqueCmd ∨ t.sample.torqueFb ≠ s.sample.torqueFb ∨
        t.sample.torqueDev ≠ s.sample.torqueDev) →
      s.seq.blk = .torque ∧ verdict s (blockRequest s .torque) =
        .ok [t.sample.torqueCmd, t.sample.torqueFb, t.sample.torqueDev]) ∧
    ((t.sample.din ≠ s.sample.din ∨ t.sample.dout ≠ s.sample.dout) →
      s.seq.blk = .io ∧ ∃ w0 w1, verdict s (blockRequest s .io) = .ok [w0, w1] ∧
        t.sample.din = w0.extractLsb' 0 8 ∧ t.sample.dout = w1.extractLsb' 0 6) ∧
    (t.sample.errorCode ≠ s.sample.errorCode →
      (s.seq.blk = .err ∧ verdict s (blockRequest s .err) = .ok [t.sample.errorCode]) ∨
      (s.seq.blk = .alarm ∧ s.params.clearCodeOnAlarmClear = true ∧ t.sample.errorCode = 0))

/-- FAULT_STATE changes only in the alarm-clear step, to `Clear`, or in the step of a successful error-code read,
whose code is then ERROR_CODE (43 R307, 44 R331). -/
def Obligations.FaultStateMovesOnDecodedDataOnly : Prop :=
  ∀ s t : State, step s = .next t → noReset s → t.faultState ≠ s.faultState →
    (s.seq.blk = .alarm ∧ t.faultState = .clear) ∨
    (s.seq.blk = .err ∧ verdict s (blockRequest s .err) = .ok [t.sample.errorCode] ∧
      (t.faultState = .clear ∨ t.faultState = .faulted t.sample.errorCode))

/-! ## Transport commands (41) -/

/-- CONNECT, its whole effect in every case (41 R211). The draws in `env` are the model's own (log 4). -/
def Obligations.ConnectOpensTheLinkOrSaysWhyNot : Prop :=
  ∀ (b : BitVec 3) (sl : BitVec 5) (v : Bool) (s : State),
    (s.link = .connected → exec (.connect b sl v) s = .next
      { s with
        status := { s.status with cause := .alreadyConnected, done := true }
        seq := { s.seq with phase := .idle } }) ∧
    (s.link = .disconnected → (b = 7 ∨ sl = 0) → exec (.connect b sl v) s = .next
      { s with
        status := { s.status with cause := .cfgInvalid, done := true }
        seq := { s.seq with phase := .idle } }) ∧
    (s.link = .disconnected → b ≠ 7 → sl ≠ 0 →
      let drawn : Env :=
        { s.env with connectScript := s.env.connectScript.tail, connectCount := s.env.connectCount + 1 }
      (nextDraw s = .ok → exec (.connect b sl v) s = .next
        { s with
          linkcfg := ⟨b, sl, v⟩
          link := .connected
          status := { s.status with cause := .ok, done := true }
          seq := { s.seq with phase := .idle }
          env := drawn }) ∧
      (nextDraw s = .openFailed → exec (.connect b sl v) s = .next
        { s with
          status := { s.status with cause := .openFailed, done := true }
          seq := { s.seq with phase := .idle }
          env := drawn }) ∧
      (nextDraw s = .linkFailed → exec (.connect b sl v) s = .next
        { s with
          status := { s.status with cause := .linkFailed, done := true }
          seq := { s.seq with phase := .idle }
          env := drawn }))

/-- Every CONNECT that passes its checks completes, with the cause of its draw, the link open exactly when that is OK, and
LINKCFG then the command's (41 R211); the model admits all three draws of every such CONNECT, and CONNECT sends no frame
(41 R212). The draws in `env` are the model's own (log 4). -/
def Obligations.ConnectAdmitsEveryOutcome : Prop :=
  ∀ (b : BitVec 3) (sl : BitVec 5) (v : Bool) (s : State), s.link = .disconnected → b ≠ 7 → sl ≠ 0 →
    (∃ t, exec (.connect b sl v) s = .next t ∧ t.busy = false ∧ t.status.done = true ∧ t.env.sent = s.env.sent ∧
      t.status.cause = (match nextDraw s with
        | .ok => .ok | .openFailed => .openFailed | .linkFailed => .linkFailed) ∧
      (t.link = .connected ↔ nextDraw s = .ok) ∧
      t.linkcfg = if nextDraw s = .ok then ⟨b, sl, v⟩ else s.linkcfg) ∧
    ∀ c : Cause, (c = .ok ∨ c = .openFailed ∨ c = .linkFailed) →
      ∃ script t, exec (.connect b sl v) { s with env := { s.env with connectScript := script } } = .next t ∧
        t.status.cause = c ∧ (t.link = .connected ↔ c = .ok) ∧ t.env.sent = s.env.sent

/-- READ_REGS, its whole effect in every case (41 R220, R221). The request is `[SLAVE, 0x03, ADDR, COUNT, CRC]`. What
`env` records of the line is the model's own (log 3, 14). -/
def Obligations.ReadRegsReadsOnceAndStoresWhole : Prop :=
  ∀ (n : BitVec 8) (a : Word) (s : State),
    (s.link = .disconnected → exec (.readRegs n a) s = .next
      { s with
        resLen := 0
        status := { s.status with cause := .notConnected, done := true }
        seq := { s.seq with phase := .idle } }) ∧
    (s.link = .connected → (n.toNat < 1 ∨ s.params.maxBlock < n.toNat) → exec (.readRegs n a) s = .next
      { s with
        resLen := 0
        status := { s.status with cause := .countRange, done := true }
        seq := { s.seq with phase := .idle } }) ∧
    (s.link = .connected → 1 ≤ n.toNat → n.toNat ≤ s.params.maxBlock →
      let req := frame8 s 0x03 a (n.setWidth 16)
      (∀ ws, verdict s req = .ok ws → ws.length = n.toNat ∧ exec (.readRegs n a) s = .next
        { s with
          res := ws ++ s.res.drop n.toNat
          resLen := n
          status := { s.status with cause := .ok, done := true, xferCause := .ok, xferExc := 0 }
          seq := { s.seq with phase := .idle }
          env := envAfter s req }) ∧
      ((∀ ws, verdict s req ≠ .ok ws) → exec (.readRegs n a) s = .next
        { s with
          resLen := 0
          status := { s.status with
            cause := .xferFailed, done := true, xferCause := (verdict s req).cause, xferExc := (verdict s req).exc }
          seq := { s.seq with phase := .idle }
          env := envAfter s req }))

/-- READ_REGS returns the registers the slave answers, in register order, under every CRC profile: when the line
delivers the 0x03 response carrying `ws` (30 R132), RES holds `ws`, RES_LEN their number, and every other RES what it
held. What `env` records of the line is the model's own (log 3, 14). -/
def Obligations.ReadRegsReturnsTheSlavesRegisters : Prop :=
  ∀ (n : BitVec 8) (a : Word) (s : State) (ws : List Word) (rest : List RxOutcome),
    s.link = .connected → 1 ≤ n.toNat → n.toNat ≤ s.params.maxBlock → s.params.maxBlock ≤ 125 →
    ws.length = n.toNat →
    s.env.rxScript =
      received (readResponse s.params.crcProfile (s.linkcfg.slave.setWidth 8) ws) :: rest →
    ∃ t, exec (.readRegs n a) s = .next t ∧ t.status.cause = .ok ∧ readReg t 3 = n.setWidth 64 ∧
      (∀ i, i < n.toNat → readReg t (32 + i) = (ws.getD i 0).setWidth 64) ∧
      (∀ i, n.toNat ≤ i → readReg t (32 + i) = readReg s (32 + i)) ∧
      t.env.sent = s.env.sent ++ [frame8 s 0x03 a (n.setWidth 16)]

/-- WRITE_REG, its whole effect in every case (41 R230). The request is `[SLAVE, 0x06, ADDR, VALUE, CRC]`. What `env`
records of the line is the model's own (log 3, 14). -/
def Obligations.WriteRegWritesOnce : Prop :=
  ∀ (a x : Word) (s : State),
    (s.link = .disconnected → exec (.writeReg a x) s = .next
      { s with
        status := { s.status with cause := .notConnected, done := true }
        seq := { s.seq with phase := .idle } }) ∧
    (s.link = .connected →
      let req := frame8 s 0x06 a x
      (verdict s req = .ok [] → exec (.writeReg a x) s = .next
        { s with
          status := { s.status with cause := .ok, done := true, writeOk := true, xferCause := .ok, xferExc := 0 }
          seq := { s.seq with phase := .idle }
          env := envAfter s req }) ∧
      (verdict s req ≠ .ok [] → exec (.writeReg a x) s = .next
        { s with
          status := { s.status with
            cause := .xferFailed, done := true, xferCause := (verdict s req).cause, xferExc := (verdict s req).exc }
          seq := { s.seq with phase := .idle }
          env := envAfter s req }))

/-- TEARDOWN, its whole effect (41 R240): it closes the link, or succeeds as a no-op on a closed one. -/
def Obligations.TeardownReleasesTheLink : Prop :=
  ∀ s : State, exec .teardown s = .next
    { s with
      link := .disconnected
      status := { s.status with cause := .ok, done := true }
      seq := { s.seq with phase := .idle } }

/-- What the Transport commands never touch: READ_REGS (41 R222), CONNECT (41 R211), WRITE_REG (41 R231) and TEARDOWN (41
R240), the latch none of them (44 R343). Only READ_REGS writes RES and RES_LEN (10 R37, R38). -/
def Obligations.TransportCommandsKeepThePollState : Prop :=
  ∀ (i : Instr) (s : State), i ≠ .pollCycle → ∃ t, exec i s = .next t ∧
    t.errorTally = s.errorTally ∧ t.sample = s.sample ∧ t.valid = s.valid ∧ t.cycle = s.cycle ∧
    t.faultState = s.faultState ∧ t.notifyTrace = s.notifyTrace ∧ t.notifyCount = s.notifyCount ∧
    t.notifyCode = s.notifyCode ∧
    ((∀ n a, i ≠ .readRegs n a) → t.res = s.res ∧ t.resLen = s.resLen)

/-! ## Framer and CRC (40) -/

/-- A request is eight bytes: address, function code, the two operands high byte first, and the CRC low byte first (40
R175, R176). -/
def Obligations.RequestsAreEightBytes : Prop :=
  (∀ (s : State) (fc : Byte) (a b : Word), build s fc a b = frame8 s fc a b ∧ (build s fc a b).length = 8) ∧
  (∀ (p : CrcProfile) (bs : List Byte),
    crcBytes p bs = [(crc16 p bs).extractLsb' 0 8, (crc16 p bs).extractLsb' 8 8]) ∧
  requestFrame .modbus 0x01 0x03 0x0000 0x0001 = [0x01, 0x03, 0x00, 0x00, 0x00, 0x01, 0x84, 0x0A]

/-- The check values of the three CRC profiles and the corner cases of the algorithm (40 R161, R162). -/
def Obligations.CrcCheckValuesAgree : Prop :=
  let check : List Byte := [0x31, 0x32, 0x33, 0x34, 0x35, 0x36, 0x37, 0x38, 0x39]
  crc16 .modbus check = 0x4B37 ∧ crc16 .ccittKermit check = 0x2189 ∧ crc16 .ccittFalse check = 0x29B1 ∧
  crc16 .modbus [] = 0xFFFF ∧ crc16 .ccittKermit [] = 0x0000 ∧ crc16 .ccittFalse [] = 0xFFFF ∧
  crc16 .modbus [0x00] = 0x40BF ∧ crc16 .ccittKermit [0x00] = 0x0000 ∧ crc16 .ccittFalse [0x00] = 0xE1F0 ∧
  crc16 .modbus [0x01, 0x03, 0x00, 0x00, 0x00, 0x01] = 0x0A84

/-- The residue property (40 R164): appending the CRC low byte first leaves the CRC 0 under the reflected profiles,
for every byte sequence; under CCITT_FALSE it does not in general, and validation still accepts such a frame. -/
def Obligations.ReflectedCrcResidueIsZero : Prop :=
  (∀ bs : List Byte, crc16 .modbus (bs ++ crcBytes .modbus bs) = 0 ∧
    crc16 .ccittKermit (bs ++ crcBytes .ccittKermit bs) = 0) ∧
  crc16 .ccittFalse [0x01, 0x03, 0x02, 0x00, 0x0D, 0x4C, 0x9F] ≠ 0 ∧
  validate .ccittFalse [0x01, 0x03, 0x00, 0x30, 0x00, 0x01, 0xE6, 0x70]
    (received [0x01, 0x03, 0x02, 0x00, 0x0D, 0x4C, 0x9F]) = .ok [0x000D]

/-- A read request is answered `OK(ws)` by exactly one outcome: the 0x03 response that carries `ws`, from the
addressed slave, with exactly the requested count, a good CRC and no receive error (40 R182, 20 R107, 30 R132). -/
def Obligations.ReadIsOkExactlyOnItsResponse : Prop :=
  ∀ (p : CrcProfile) (sl : Byte) (a : Word) (n : Nat) (o : RxOutcome) (ws : List Word), n ≤ 125 →
    (validate p (requestFrame p sl 0x03 a (BitVec.ofNat 16 n)) o = .ok ws ↔
      ws.length = n ∧ o = received (readResponse p sl ws))

/-- A write request is answered `OK` by exactly one outcome: its own echo without a receive error (40 R182, 30 R134). -/
def Obligations.WriteIsOkExactlyOnItsEcho : Prop :=
  ∀ (p : CrcProfile) (sl : Byte) (a x : Word) (o : RxOutcome) (ws : List Word),
    (validate p (requestFrame p sl 0x06 a x) o = .ok ws ↔
      ws = [] ∧ o = received (requestFrame p sl 0x06 a x))

/-- The causes of a failed transaction and their order (40 R182, 60 R365, R369), for a frame whose first check that
fails is the one named. -/
def Obligations.FailureCausesComeInOrder : Prop :=
  ∀ (p : CrcProfile) (req : List Byte),
    validate p req .timeout = .failed .timeout ∧
    (∀ b bs, validate p req (.frame b bs true) = .failed .rxError) ∧
    (∀ b bs, ((b :: bs).length < 4 ∨ 256 < (b :: bs).length) →
      validate p req (.frame b bs false) = .failed .malformed) ∧
    (∀ body lo hi, 2 ≤ body.length → body.length ≤ 254 → [lo, hi] ≠ crcBytes p body →
      validate p req (received (body ++ [lo, hi])) = .failed .crcError) ∧
    (∀ body : List Byte, 2 ≤ body.length → body.length ≤ 254 → byteAt body 0 ≠ byteAt req 0 →
      validate p req (received (withCrc p body)) = .failed .badSlave) ∧
    (∀ exc, validate p req (received (withCrc p [byteAt req 0, byteAt req 1 ||| 0x80, exc])) = .slaveException exc) ∧
    (∀ body : List Byte, 2 ≤ body.length → body.length ≤ 254 → body.length ≠ 3 → byteAt body 0 = byteAt req 0 →
      byteAt body 1 = byteAt req 1 ||| 0x80 →
      validate p req (received (withCrc p body)) = .failed .malformed) ∧
    (∀ body : List Byte, 2 ≤ body.length → body.length ≤ 254 → byteAt body 0 = byteAt req 0 →
      byteAt body 1 ≠ byteAt req 1 ||| 0x80 → byteAt body 1 ≠ byteAt req 1 →
      validate p req (received (withCrc p body)) = .failed .badFunction) ∧
    (∀ body : List Byte, 2 ≤ body.length → body.length ≤ 254 → byteAt body 0 = byteAt req 0 → byteAt req 1 = 0x03 →
      byteAt body 1 = 0x03 → ((byteAt body 2).toNat ≠ 2 * requestCount req ∨ body.length ≠ 3 + 2 * requestCount req) →
      validate p req (received (withCrc p body)) = .failed .badLength) ∧
    (∀ body : List Byte, 2 ≤ body.length → body.length ≤ 254 → byteAt body 0 = byteAt req 0 → byteAt req 1 = 0x06 →
      byteAt body 1 = 0x06 → withCrc p body ≠ req →
      validate p req (received (withCrc p body)) = .failed .badEcho)

/-! ## Decoder (42) -/

/-- The speed view is two's complement, reversible, and exact in binary64 (42 R262). -/
def Obligations.SpeedViewIsSignedAndExact : Prop :=
  (∀ raw : Word, speedValue raw = if raw.toNat < 0x8000 then (raw.toNat : Int) else (raw.toNat : Int) - 65536) ∧
  (∀ v : Int, -32768 ≤ v → v ≤ 32767 → speedValue (BitVec.ofInt 16 v) = v) ∧
  (∀ raw : Word, f64Value (speedFloat raw) = (speedValue raw : Rat))

/-- The torque view reads the word unsigned and divides by exactly 10 (42 R266). -/
def Obligations.TorqueViewIsUnsignedTenths : Prop :=
  ∀ raw : Word, torqueValue raw * 10 = (raw.toNat : Rat) ∧ 0 ≤ torqueValue raw ∧
    torqueValue raw ≤ 65535 / 10

/-- The torque float is the binary64 number nearest the exact quotient, and no other value is as near (42 R267). -/
def Obligations.TorqueFloatIsTheNearest : Prop :=
  ∀ (raw : Word) (b : BitVec 64), b.extractLsb' 52 11 ≠ 0x7FF#11 → f64Value b ≠ f64Value (torqueFloat raw) →
    |f64Value (torqueFloat raw) - torqueValue raw| < |f64Value b - torqueValue raw|

/-! ## Polling Engine (43) -/

/-- The step of a successful speed attempt and of a successful torque attempt, the whole effect of each (43 R297,
R298, 42 R261, R265): the three raw words are stored, the VALID and OK bits are set, and the next block comes. What
`env` records of the line is the model's own (log 3, 14). -/
def Obligations.SpeedAndTorqueBlocksAreStored : Prop :=
  ∀ (s : State) (w0 w1 w2 : Word), 3 ≤ s.params.maxBlock →
    (s.seq.blk = .speed → (s.seq.att = 0 → s.link = .connected) →
      verdict s (blockRequest s .speed) = .ok [w0, w1, w2] → exec .pollCycle s = .next
      { s with
        sample := { s.sample with speedCmd := w0, speedFb := w1, speedDev := w2 }
        valid := { s.valid with speed := true }
        cycle := { s.cycle with speedOk := true, speedAtt := BitVec.ofNat 3 (s.seq.att + 1) }
        status := { s.status with xferCause := .ok, xferExc := 0 }
        seq := { s.seq with blk := .torque, att := 0 }
        env := envAfter s (blockRequest s .speed) }) ∧
    (s.seq.blk = .torque → verdict s (blockRequest s .torque) = .ok [w0, w1, w2] → exec .pollCycle s = .next
      { s with
        sample := { s.sample with torqueCmd := w0, torqueFb := w1, torqueDev := w2 }
        valid := { s.valid with torque := true }
        cycle := { s.cycle with torqueOk := true, torqueAtt := BitVec.ofNat 3 (s.seq.att + 1) }
        status := { s.status with xferCause := .ok, xferExc := 0 }
        seq := { s.seq with blk := .io, att := 0 }
        env := envAfter s (blockRequest s .torque) })

/-- The step of a successful IO attempt, its whole effect (43 R301, R291, 42 R270, R271). The alarm bit, bit 1 of word
1, decides what comes next; that ALARM_EVAL and ERR_TRIED are set in this step is the model's reading (log 8). What
`env` records of the line is the model's own (log 3, 14). -/
def Obligations.IoBlockIsStoredAndTheAlarmEvaluated : Prop :=
  ∀ (s : State) (w0 w1 : Word), s.seq.blk = .io → 3 ≤ s.params.maxBlock →
    verdict s (blockRequest s .io) = .ok [w0, w1] →
    exec .pollCycle s = .next
      { s with
        sample := { s.sample with din := w0.extractLsb' 0 8, dout := w1.extractLsb' 0 6 }
        valid := { s.valid with io := true }
        cycle := { s.cycle with
          ioOk := true, alarmEval := true, ioAtt := BitVec.ofNat 3 (s.seq.att + 1)
          errTried := if w1.getLsbD 1 then true else s.cycle.errTried }
        status := { s.status with xferCause := .ok, xferExc := 0 }
        seq := { s.seq with blk := if w1.getLsbD 1 then .err else .alarm, att := 0 }
        env := envAfter s (blockRequest s .io) }

/-- The step of a successful error-code attempt, its whole effect (43 R303, 42 R275, 44 R332): the code is stored, and
the Alarm State Machine takes its step with it. What `env` records of the line is the model's own (log 3, 14). -/
def Obligations.ErrorCodeIsStoredAndTheAlarmStepped : Prop :=
  ∀ (s : State) (c : Word), s.seq.blk = .err → 3 ≤ s.params.maxBlock →
    verdict s (blockRequest s .err) = .ok [c] →
    let t : State :=
      { s with
        sample := { s.sample with errorCode := c }
        valid := { s.valid with err := true }
        cycle := { s.cycle with errOk := true, errAtt := BitVec.ofNat 3 (s.seq.att + 1) }
        status := { s.status with xferCause := .ok, xferExc := 0 }
        seq := { s.seq with blk := .finish, att := 0 }
        env := envAfter s (blockRequest s .err) }
    (c = 0 → exec .pollCycle s = .next { t with faultState := .clear }) ∧
    (c ≠ 0 → s.faultState = .faulted c → exec .pollCycle s = .next t) ∧
    (c ≠ 0 → s.faultState ≠ .faulted c → exec .pollCycle s = .next
      { t with
        faultState := .faulted c
        notifyTrace := s.notifyTrace ++ [⟨c, faultMsg s.params c⟩]
        notifyCount := s.notifyCount + 1
        notifyCode := c })

/-- The step of a failed attempt, its whole effect (43 R295, R296, R299): the attempt and the failure are counted, and
the next attempt or, after the fifth, the next block comes; no block register, no VALID bit, nothing of the alarm
moves. What `env` records of the line is the model's own (log 3, 14). -/
def Obligations.FailedAttemptIsOnlyCounted : Prop :=
  ∀ (s : State) (b : Blk), isDataBlock b → s.seq.blk = b → (b = .speed → s.seq.att = 0 → s.link = .connected) →
    3 ≤ s.params.maxBlock → (∀ ws, verdict s (blockRequest s b) ≠ .ok ws) →
    exec .pollCycle s = .next
      { s with
        cycle := setAttempts b (s.seq.att + 1) s.cycle
        errorTally := if s.errorTally = 0xFFFFFFFF#32 then 0xFFFFFFFF#32 else s.errorTally + 1
        status := { s.status with
          xferCause := (verdict s (blockRequest s b)).cause, xferExc := (verdict s (blockRequest s b)).exc }
        seq := if s.seq.att + 1 < 5 then { s.seq with att := s.seq.att + 1 }
          else { s.seq with blk := (match b with | .speed => .torque | .torque => .io | _ => .finish), att := 0 }
        env := envAfter s (blockRequest s b) }

/-- A block whose five attempts all fail (43 R299, R296): its registers and VALID bits are unchanged, its OK bit with
them, ERROR_TALLY is five higher (saturating), and the same request was sent five times. What `env` records of the
line is the model's own (log 3, 14). -/
def Obligations.ExhaustedBlockLeavesTheSampleStale : Prop :=
  ∀ (s : State) (b : Blk), isDataBlock b → inCycle s → s.seq.blk = b → s.seq.att = 0 → 3 ≤ s.params.maxBlock →
    (∀ k, k < 5 → ∀ ws, validate s.params.crcProfile (blockRequest s b) (outcomeAt s k (blockRequest s b)) ≠ .ok ws) →
    ∃ t, engineRun 5 s = .next t ∧ t.sample = s.sample ∧ t.valid = s.valid ∧ t.cycle = setAttempts b 5 s.cycle ∧
      t.faultState = s.faultState ∧ t.notifyTrace = s.notifyTrace ∧
      t.errorTally.toNat = tallyPlus s.errorTally 5 ∧
      t.env.sent = s.env.sent ++ List.replicate 5 (blockRequest s b) ∧ inCycle t ∧ t.seq.att = 0 ∧
      t.seq.blk = (match b with | .speed => .torque | .torque => .io | _ => .finish)

/-- Bounded retry, for each of the four blocks (43 R295): after `k` failed attempts, `k` at most 4, a response on attempt
`k + 1` is stored, the attempt field of the block reads `k + 1`, ERROR_TALLY is `k` higher and the same request was sent
`k + 1` times. That ALARM_EVAL and ERR_TRIED are set in the step of the IO attempt is the model's reading of 43 R291 (log
8). What `env` records of the line is the model's own (log 3, 14). -/
def Obligations.RetryStoresTheFirstGoodResponse : Prop :=
  ∀ (s : State) (b : Blk) (k : Nat) (ws : List Word), isDataBlock b → inCycle s → s.seq.blk = b → s.seq.att = 0 →
    3 ≤ s.params.maxBlock → k < 5 →
    (∀ j, j < k → ∀ xs, validate s.params.crcProfile (blockRequest s b) (outcomeAt s j (blockRequest s b)) ≠ .ok xs) →
    validate s.params.crcProfile (blockRequest s b) (outcomeAt s k (blockRequest s b)) = .ok ws →
    ∃ t, engineRun (k + 1) s = .next t ∧ t.errorTally.toNat = tallyPlus s.errorTally k ∧
      t.env.sent = s.env.sent ++ List.replicate (k + 1) (blockRequest s b) ∧ t.seq.att = 0 ∧
      blockStored b ws s t (setAttempts b (k + 1) s.cycle)

/-- The alarm-clear step, its whole effect (43 R302). -/
def Obligations.AlarmClearResetsTheLatch : Prop :=
  ∀ s : State, s.seq.blk = .alarm →
    (s.params.clearCodeOnAlarmClear = true → exec .pollCycle s = .next
      { s with
        faultState := .clear
        sample := { s.sample with errorCode := 0 }
        valid := { s.valid with err := true }
        seq := { s.seq with blk := .finish, att := 0 } }) ∧
    (s.params.clearCodeOnAlarmClear = false → exec .pollCycle s = .next
      { s with faultState := .clear, seq := { s.seq with blk := .finish, att := 0 } })

/-- The completion steps of POLL_CYCLE (43 R291): OK at its end, NOT_CONNECTED at its start on a closed link. -/
def Obligations.PollCycleCompletesOkOrNotConnected : Prop :=
  ∀ s : State,
    (s.seq.blk = .finish → exec .pollCycle s = .next
      { s with
        status := { s.status with cause := .ok, done := true }
        seq := { s.seq with phase := .idle } }) ∧
    (s.seq.blk = .speed → s.seq.att = 0 → s.link = .disconnected → exec .pollCycle s = .next
      { s with
        status := { s.status with cause := .notConnected, done := true }
        seq := { s.seq with phase := .idle } })

/-- A cycle whose IO block is exhausted ends without an alarm evaluation (43 R304). What `env` records of the line is
the model's own (log 3, 14). -/
def Obligations.ExhaustedIoSkipsTheAlarm : Prop :=
  ∀ s : State, inCycle s → s.seq.blk = .io → s.seq.att = 0 → 3 ≤ s.params.maxBlock →
    (∀ k, k < 5 → ∀ ws, validate s.params.crcProfile (blockRequest s .io)
      (outcomeAt s k (blockRequest s .io)) ≠ .ok ws) →
    ∃ t, engineRun 6 s = .next t ∧ t.busy = false ∧ t.status.cause = .ok ∧ t.faultState = s.faultState ∧
      t.sample.errorCode = s.sample.errorCode ∧ t.notifyTrace = s.notifyTrace ∧
      t.cycle.alarmEval = s.cycle.alarmEval ∧ t.cycle.errTried = s.cycle.errTried ∧
      t.env.sent = s.env.sent ++ List.replicate 5 (blockRequest s .io)

/-- One whole cycle with every block answered the first time and the alarm bit clear (43 R291, R305): three
transactions, CYCLE_RESULT reads 0x00011127, the sample is the three responses', the latch is `Clear`, the tally is
unchanged. What `env` records of the line is the model's own (log 3, 14). -/
def Obligations.CleanCycleStoresTheSample : Prop :=
  ∀ (s : State) (a0 a1 a2 b0 b1 b2 c0 c1 : Word) (rest : List RxOutcome),
    inCycle s → s.seq.blk = .speed → s.seq.att = 0 → s.cycle = CycleResult.zero → 3 ≤ s.params.maxBlock →
    s.params.clearCodeOnAlarmClear = true → c1.getLsbD 1 = false →
    (let answer (ws : List Word) := received (readResponse s.params.crcProfile (s.linkcfg.slave.setWidth 8) ws)
     s.env.rxScript = answer [a0, a1, a2] :: answer [b0, b1, b2] :: answer [c0, c1] :: rest) →
    ∃ t, engineRun 5 s = .next t ∧ t.busy = false ∧ t.status.cause = .ok ∧ readReg t 4 = 0x00011127 ∧
      t.sample = { s.sample with
        speedCmd := a0, speedFb := a1, speedDev := a2, torqueCmd := b0, torqueFb := b1, torqueDev := b2
        din := c0.extractLsb' 0 8, dout := c1.extractLsb' 0 6, errorCode := 0 } ∧
      t.valid = { s.valid with speed := true, torque := true, io := true, err := true } ∧
      t.faultState = .clear ∧ t.errorTally = s.errorTally ∧ t.notifyTrace = s.notifyTrace ∧
      t.env.sent = s.env.sent ++ [blockRequest s .speed, blockRequest s .torque, blockRequest s .io] ∧
      t.env.rxScript = rest

/-- One whole cycle with every block answered the first time, the alarm bit set and a nonzero fault code `e` (43 R291,
R303, 44 R332): four transactions, CYCLE_RESULT reads 0x0011113F, `Faulted(e)`, and one notification if it is new.
What `env` records of the line is the model's own (log 3, 14). -/
def Obligations.AlarmedCycleLatchesTheFault : Prop :=
  ∀ (s : State) (a0 a1 a2 b0 b1 b2 c0 c1 e : Word) (rest : List RxOutcome),
    inCycle s → s.seq.blk = .speed → s.seq.att = 0 → s.cycle = CycleResult.zero → 3 ≤ s.params.maxBlock →
    c1.getLsbD 1 = true → e ≠ 0 →
    (let answer (ws : List Word) := received (readResponse s.params.crcProfile (s.linkcfg.slave.setWidth 8) ws)
     s.env.rxScript = answer [a0, a1, a2] :: answer [b0, b1, b2] :: answer [c0, c1] :: answer [e] :: rest) →
    ∃ t, engineRun 5 s = .next t ∧ t.busy = false ∧ t.status.cause = .ok ∧ readReg t 4 = 0x0011113F ∧
      t.sample.errorCode = e ∧ readReg t 19 = (e.setWidth 64 <<< 16) ||| 1 ∧ t.errorTally = s.errorTally ∧
      t.notifyTrace = (if s.faultState = .faulted e then s.notifyTrace
        else s.notifyTrace ++ [⟨e, faultMsg s.params e⟩]) ∧
      t.env.sent = s.env.sent ++
        [blockRequest s .speed, blockRequest s .torque, blockRequest s .io, blockRequest s .err]

/-! ## Alarm State Machine (44) -/

/-- The complete transition table (44 R332 to R338) with its notifications (44 R340), each row the whole effect. -/
def Obligations.AlarmTransitionTable : Prop :=
  ∀ (s : State) (c x : Word), c ≠ 0 → x ≠ 0 →
    let faultedAndNotified : State :=
      { s with
        faultState := .faulted c
        notifyTrace := s.notifyTrace ++ [⟨c, faultMsg s.params c⟩]
        notifyCount := BitVec.ofNat 32 (s.notifyCount.toNat + 1)
        notifyCode := c }
    (s.faultState = .clear → ∀ d, alarmStep false d s = s) ∧
    (s.faultState = .clear → alarmStep true 0 s = s) ∧
    (s.faultState = .clear → alarmStep true c s = faultedAndNotified) ∧
    (s.faultState = .faulted x → ∀ d, alarmStep false d s = { s with faultState := .clear }) ∧
    (s.faultState = .faulted x → c = x → alarmStep true c s = s) ∧
    (s.faultState = .faulted x → c ≠ x → alarmStep true c s = faultedAndNotified) ∧
    (s.faultState = .faulted x → alarmStep true 0 s = { s with faultState := .clear })

/-- The notification discipline (44 R341): over every step but a reset, the trace is unchanged, or it grows by one
event and the latch enters `Faulted` of its code from another state; and any number of alarm steps with the same
nonzero code emit no more than the first of them. The message of an event is FAULT_MSG's (42 R276): empty at 0,
`undervoltage` at 13, the instance's entry for any other code it lists, `unknown error code` for one it does not list. That
the first of several entries counts is the model's choice (log 15). -/
def Obligations.OneNotificationPerFaultOnset : Prop :=
  (∀ s t : State, step s = .next t → noReset s →
    t.notifyTrace = s.notifyTrace ∨
    ∃ c, c ≠ 0 ∧ t.notifyTrace = s.notifyTrace ++ [⟨c, faultMsg s.params c⟩] ∧ s.faultState ≠ .faulted c ∧
      t.faultState = .faulted c) ∧
  (∀ (s : State) (c : Word) (n : Nat), c ≠ 0 →
    (alarmStep true c)^[n + 1] s = alarmStep true c s) ∧
  (∀ p : Params, faultMsg p 0 = "" ∧ faultMsg p 13 = "undervoltage" ∧
    ∀ c : Word, c ≠ 0 → c ≠ 13 →
      (∀ m before after, p.faultMsgs = before ++ (c, m) :: after → (∀ e ∈ before, e.1 ≠ c) → faultMsg p c = m) ∧
      ((∀ e ∈ p.faultMsgs, e.1 ≠ c) → faultMsg p c = "unknown error code"))

/-! ## The serial line (40) and the instances (60) -/

/-- The 8E1 character (40 R170): eleven bits, start 0, data least significant first, parity that makes the ones even,
stop 1; and the receiver's sampling gives the byte back without an error. -/
def Obligations.CharactersAre8E1 : Prop :=
  ∀ (b : Byte) (gap : Gap),
    (charBits b).length = 11 ∧ (charBits b).head? = some false ∧ (charBits b).getLast? = some true ∧
    (∀ i, i < 8 → (charBits b)[i + 1]? = some (b.getLsbD i)) ∧
    (((charBits b).drop 1).take 9).count true % 2 = 0 ∧
    sampleChar gap (charBits b) = some ⟨gap, b, evenParity b, true⟩ ∧
    ((⟨gap, b, evenParity b, true⟩ : RxChar).bad = false) ∧
    (∀ st, (⟨gap, b, !evenParity b, st⟩ : RxChar).bad = true) ∧
    (∀ p, (⟨gap, b, p, false⟩ : RxChar).bad = true)

/-- A frame sent in one burst is received as it was sent (40 R177). In any stream, a frame starts at the first character
after a silence and ends before the next silence, whatever comes after it (40 R180); it has a receive error exactly when a
character of it is bad or a gap inside it is between 1.5 and 3.5 character times (40 R181). A stream without a silence
holds no frame. -/
def Obligations.SentFramesAreReceived : Prop :=
  (∀ (b : Byte) (bs : List Byte), receiveChars (sentChars (b :: bs)) = .frame b bs false) ∧
  (∀ (before : List RxChar) (c : RxChar) (cs after : List RxChar), (∀ d ∈ before, d.gap ≠ .silence) →
    c.gap = .silence → (∀ d ∈ cs, d.gap ≠ .silence) → (∀ d, after.head? = some d → d.gap = .silence) →
    ∃ err, receiveChars (before ++ c :: cs ++ after) = .frame c.data (cs.map RxChar.data) err ∧
      (err = true ↔ (c.bad = true ∨ ∃ d ∈ cs, d.bad = true ∨ d.gap = .broken))) ∧
  (∀ cs : List RxChar, (∀ d ∈ cs, d.gap ≠ .silence) → receiveChars cs = .timeout)

/-- Instances share no state (60 R395, 10 R30): a step of one leaves every other as it was. -/
def Obligations.InstancesShareNothing : Prop :=
  ∀ (p q : List State) (k : Nat), platformStep k p = .next q →
    q.length = p.length ∧ (∀ j, j ≠ k → q[j]? = p[j]?) ∧
    (∀ s, p[k]? = some s → ∃ t, step s = .next t ∧ q[k]? = some t)
end

