-- ==== Sys2Proof/Laws/State.lean ====
section
/-! SUPPORT. The small lemmas of the state's updates: one per field per update, so that no later proof unfolds a record
update. -/

namespace Sys2Proof.Machine.State

section
variable (s : State) (v : CmdWord)
@[simp] theorem setCmd_params : (s.setCmd v).params = s.params := rfl
@[simp] theorem setCmd_cmd : (s.setCmd v).cmd = v := rfl
@[simp] theorem setCmd_status : (s.setCmd v).status = s.status := rfl
@[simp] theorem setCmd_linkcfg : (s.setCmd v).linkcfg = s.linkcfg := rfl
@[simp] theorem setCmd_resLen : (s.setCmd v).resLen = s.resLen := rfl
@[simp] theorem setCmd_res : (s.setCmd v).res = s.res := rfl
@[simp] theorem setCmd_cycle : (s.setCmd v).cycle = s.cycle := rfl
@[simp] theorem setCmd_valid : (s.setCmd v).valid = s.valid := rfl
@[simp] theorem setCmd_sample : (s.setCmd v).sample = s.sample := rfl
@[simp] theorem setCmd_faultState : (s.setCmd v).faultState = s.faultState := rfl
@[simp] theorem setCmd_errorTally : (s.setCmd v).errorTally = s.errorTally := rfl
@[simp] theorem setCmd_notifyCount : (s.setCmd v).notifyCount = s.notifyCount := rfl
@[simp] theorem setCmd_notifyCode : (s.setCmd v).notifyCode = s.notifyCode := rfl
@[simp] theorem setCmd_pollIntervalUs : (s.setCmd v).pollIntervalUs = s.pollIntervalUs := rfl
@[simp] theorem setCmd_link : (s.setCmd v).link = s.link := rfl
@[simp] theorem setCmd_seq : (s.setCmd v).seq = s.seq := rfl
@[simp] theorem setCmd_notifyTrace : (s.setCmd v).notifyTrace = s.notifyTrace := rfl
@[simp] theorem setCmd_env : (s.setCmd v).env = s.env := rfl
@[simp] theorem setCmd_twice (w) : (s.setCmd w).setCmd v = s.setCmd v := rfl
@[simp] theorem setCmd_busy : (s.setCmd v).busy = s.busy := rfl
@[simp] theorem setCmd_connected : (s.setCmd v).connected = s.connected := rfl
end

section
variable (s : State) (v : Status)
@[simp] theorem setStatus_params : (s.setStatus v).params = s.params := rfl
@[simp] theorem setStatus_cmd : (s.setStatus v).cmd = s.cmd := rfl
@[simp] theorem setStatus_status : (s.setStatus v).status = v := rfl
@[simp] theorem setStatus_linkcfg : (s.setStatus v).linkcfg = s.linkcfg := rfl
@[simp] theorem setStatus_resLen : (s.setStatus v).resLen = s.resLen := rfl
@[simp] theorem setStatus_res : (s.setStatus v).res = s.res := rfl
@[simp] theorem setStatus_cycle : (s.setStatus v).cycle = s.cycle := rfl
@[simp] theorem setStatus_valid : (s.setStatus v).valid = s.valid := rfl
@[simp] theorem setStatus_sample : (s.setStatus v).sample = s.sample := rfl
@[simp] theorem setStatus_faultState : (s.setStatus v).faultState = s.faultState := rfl
@[simp] theorem setStatus_errorTally : (s.setStatus v).errorTally = s.errorTally := rfl
@[simp] theorem setStatus_notifyCount : (s.setStatus v).notifyCount = s.notifyCount := rfl
@[simp] theorem setStatus_notifyCode : (s.setStatus v).notifyCode = s.notifyCode := rfl
@[simp] theorem setStatus_pollIntervalUs : (s.setStatus v).pollIntervalUs = s.pollIntervalUs := rfl
@[simp] theorem setStatus_link : (s.setStatus v).link = s.link := rfl
@[simp] theorem setStatus_seq : (s.setStatus v).seq = s.seq := rfl
@[simp] theorem setStatus_notifyTrace : (s.setStatus v).notifyTrace = s.notifyTrace := rfl
@[simp] theorem setStatus_env : (s.setStatus v).env = s.env := rfl
@[simp] theorem setStatus_twice (w) : (s.setStatus w).setStatus v = s.setStatus v := rfl
@[simp] theorem setStatus_busy : (s.setStatus v).busy = s.busy := rfl
@[simp] theorem setStatus_connected : (s.setStatus v).connected = s.connected := rfl
end

section
variable (s : State) (v : LinkCfg)
@[simp] theorem setLinkcfg_params : (s.setLinkcfg v).params = s.params := rfl
@[simp] theorem setLinkcfg_cmd : (s.setLinkcfg v).cmd = s.cmd := rfl
@[simp] theorem setLinkcfg_status : (s.setLinkcfg v).status = s.status := rfl
@[simp] theorem setLinkcfg_linkcfg : (s.setLinkcfg v).linkcfg = v := rfl
@[simp] theorem setLinkcfg_resLen : (s.setLinkcfg v).resLen = s.resLen := rfl
@[simp] theorem setLinkcfg_res : (s.setLinkcfg v).res = s.res := rfl
@[simp] theorem setLinkcfg_cycle : (s.setLinkcfg v).cycle = s.cycle := rfl
@[simp] theorem setLinkcfg_valid : (s.setLinkcfg v).valid = s.valid := rfl
@[simp] theorem setLinkcfg_sample : (s.setLinkcfg v).sample = s.sample := rfl
@[simp] theorem setLinkcfg_faultState : (s.setLinkcfg v).faultState = s.faultState := rfl
@[simp] theorem setLinkcfg_errorTally : (s.setLinkcfg v).errorTally = s.errorTally := rfl
@[simp] theorem setLinkcfg_notifyCount : (s.setLinkcfg v).notifyCount = s.notifyCount := rfl
@[simp] theorem setLinkcfg_notifyCode : (s.setLinkcfg v).notifyCode = s.notifyCode := rfl
@[simp] theorem setLinkcfg_pollIntervalUs : (s.setLinkcfg v).pollIntervalUs = s.pollIntervalUs := rfl
@[simp] theorem setLinkcfg_link : (s.setLinkcfg v).link = s.link := rfl
@[simp] theorem setLinkcfg_seq : (s.setLinkcfg v).seq = s.seq := rfl
@[simp] theorem setLinkcfg_notifyTrace : (s.setLinkcfg v).notifyTrace = s.notifyTrace := rfl
@[simp] theorem setLinkcfg_env : (s.setLinkcfg v).env = s.env := rfl
@[simp] theorem setLinkcfg_twice (w) : (s.setLinkcfg w).setLinkcfg v = s.setLinkcfg v := rfl
@[simp] theorem setLinkcfg_busy : (s.setLinkcfg v).busy = s.busy := rfl
@[simp] theorem setLinkcfg_connected : (s.setLinkcfg v).connected = s.connected := rfl
end

section
variable (s : State) (v : BitVec 8)
@[simp] theorem setResLen_params : (s.setResLen v).params = s.params := rfl
@[simp] theorem setResLen_cmd : (s.setResLen v).cmd = s.cmd := rfl
@[simp] theorem setResLen_status : (s.setResLen v).status = s.status := rfl
@[simp] theorem setResLen_linkcfg : (s.setResLen v).linkcfg = s.linkcfg := rfl
@[simp] theorem setResLen_resLen : (s.setResLen v).resLen = v := rfl
@[simp] theorem setResLen_res : (s.setResLen v).res = s.res := rfl
@[simp] theorem setResLen_cycle : (s.setResLen v).cycle = s.cycle := rfl
@[simp] theorem setResLen_valid : (s.setResLen v).valid = s.valid := rfl
@[simp] theorem setResLen_sample : (s.setResLen v).sample = s.sample := rfl
@[simp] theorem setResLen_faultState : (s.setResLen v).faultState = s.faultState := rfl
@[simp] theorem setResLen_errorTally : (s.setResLen v).errorTally = s.errorTally := rfl
@[simp] theorem setResLen_notifyCount : (s.setResLen v).notifyCount = s.notifyCount := rfl
@[simp] theorem setResLen_notifyCode : (s.setResLen v).notifyCode = s.notifyCode := rfl
@[simp] theorem setResLen_pollIntervalUs : (s.setResLen v).pollIntervalUs = s.pollIntervalUs := rfl
@[simp] theorem setResLen_link : (s.setResLen v).link = s.link := rfl
@[simp] theorem setResLen_seq : (s.setResLen v).seq = s.seq := rfl
@[simp] theorem setResLen_notifyTrace : (s.setResLen v).notifyTrace = s.notifyTrace := rfl
@[simp] theorem setResLen_env : (s.setResLen v).env = s.env := rfl
@[simp] theorem setResLen_twice (w) : (s.setResLen w).setResLen v = s.setResLen v := rfl
@[simp] theorem setResLen_busy : (s.setResLen v).busy = s.busy := rfl
@[simp] theorem setResLen_connected : (s.setResLen v).connected = s.connected := rfl
end

section
variable (s : State) (v : List Word)
@[simp] theorem setRes_params : (s.setRes v).params = s.params := rfl
@[simp] theorem setRes_cmd : (s.setRes v).cmd = s.cmd := rfl
@[simp] theorem setRes_status : (s.setRes v).status = s.status := rfl
@[simp] theorem setRes_linkcfg : (s.setRes v).linkcfg = s.linkcfg := rfl
@[simp] theorem setRes_resLen : (s.setRes v).resLen = s.resLen := rfl
@[simp] theorem setRes_res : (s.setRes v).res = v := rfl
@[simp] theorem setRes_cycle : (s.setRes v).cycle = s.cycle := rfl
@[simp] theorem setRes_valid : (s.setRes v).valid = s.valid := rfl
@[simp] theorem setRes_sample : (s.setRes v).sample = s.sample := rfl
@[simp] theorem setRes_faultState : (s.setRes v).faultState = s.faultState := rfl
@[simp] theorem setRes_errorTally : (s.setRes v).errorTally = s.errorTally := rfl
@[simp] theorem setRes_notifyCount : (s.setRes v).notifyCount = s.notifyCount := rfl
@[simp] theorem setRes_notifyCode : (s.setRes v).notifyCode = s.notifyCode := rfl
@[simp] theorem setRes_pollIntervalUs : (s.setRes v).pollIntervalUs = s.pollIntervalUs := rfl
@[simp] theorem setRes_link : (s.setRes v).link = s.link := rfl
@[simp] theorem setRes_seq : (s.setRes v).seq = s.seq := rfl
@[simp] theorem setRes_notifyTrace : (s.setRes v).notifyTrace = s.notifyTrace := rfl
@[simp] theorem setRes_env : (s.setRes v).env = s.env := rfl
@[simp] theorem setRes_twice (w) : (s.setRes w).setRes v = s.setRes v := rfl
@[simp] theorem setRes_busy : (s.setRes v).busy = s.busy := rfl
@[simp] theorem setRes_connected : (s.setRes v).connected = s.connected := rfl
end

section
variable (s : State) (v : CycleResult)
@[simp] theorem setCycle_params : (s.setCycle v).params = s.params := rfl
@[simp] theorem setCycle_cmd : (s.setCycle v).cmd = s.cmd := rfl
@[simp] theorem setCycle_status : (s.setCycle v).status = s.status := rfl
@[simp] theorem setCycle_linkcfg : (s.setCycle v).linkcfg = s.linkcfg := rfl
@[simp] theorem setCycle_resLen : (s.setCycle v).resLen = s.resLen := rfl
@[simp] theorem setCycle_res : (s.setCycle v).res = s.res := rfl
@[simp] theorem setCycle_cycle : (s.setCycle v).cycle = v := rfl
@[simp] theorem setCycle_valid : (s.setCycle v).valid = s.valid := rfl
@[simp] theorem setCycle_sample : (s.setCycle v).sample = s.sample := rfl
@[simp] theorem setCycle_faultState : (s.setCycle v).faultState = s.faultState := rfl
@[simp] theorem setCycle_errorTally : (s.setCycle v).errorTally = s.errorTally := rfl
@[simp] theorem setCycle_notifyCount : (s.setCycle v).notifyCount = s.notifyCount := rfl
@[simp] theorem setCycle_notifyCode : (s.setCycle v).notifyCode = s.notifyCode := rfl
@[simp] theorem setCycle_pollIntervalUs : (s.setCycle v).pollIntervalUs = s.pollIntervalUs := rfl
@[simp] theorem setCycle_link : (s.setCycle v).link = s.link := rfl
@[simp] theorem setCycle_seq : (s.setCycle v).seq = s.seq := rfl
@[simp] theorem setCycle_notifyTrace : (s.setCycle v).notifyTrace = s.notifyTrace := rfl
@[simp] theorem setCycle_env : (s.setCycle v).env = s.env := rfl
@[simp] theorem setCycle_twice (w) : (s.setCycle w).setCycle v = s.setCycle v := rfl
@[simp] theorem setCycle_busy : (s.setCycle v).busy = s.busy := rfl
@[simp] theorem setCycle_connected : (s.setCycle v).connected = s.connected := rfl
end

section
variable (s : State) (v : Valid)
@[simp] theorem setValid_params : (s.setValid v).params = s.params := rfl
@[simp] theorem setValid_cmd : (s.setValid v).cmd = s.cmd := rfl
@[simp] theorem setValid_status : (s.setValid v).status = s.status := rfl
@[simp] theorem setValid_linkcfg : (s.setValid v).linkcfg = s.linkcfg := rfl
@[simp] theorem setValid_resLen : (s.setValid v).resLen = s.resLen := rfl
@[simp] theorem setValid_res : (s.setValid v).res = s.res := rfl
@[simp] theorem setValid_cycle : (s.setValid v).cycle = s.cycle := rfl
@[simp] theorem setValid_valid : (s.setValid v).valid = v := rfl
@[simp] theorem setValid_sample : (s.setValid v).sample = s.sample := rfl
@[simp] theorem setValid_faultState : (s.setValid v).faultState = s.faultState := rfl
@[simp] theorem setValid_errorTally : (s.setValid v).errorTally = s.errorTally := rfl
@[simp] theorem setValid_notifyCount : (s.setValid v).notifyCount = s.notifyCount := rfl
@[simp] theorem setValid_notifyCode : (s.setValid v).notifyCode = s.notifyCode := rfl
@[simp] theorem setValid_pollIntervalUs : (s.setValid v).pollIntervalUs = s.pollIntervalUs := rfl
@[simp] theorem setValid_link : (s.setValid v).link = s.link := rfl
@[simp] theorem setValid_seq : (s.setValid v).seq = s.seq := rfl
@[simp] theorem setValid_notifyTrace : (s.setValid v).notifyTrace = s.notifyTrace := rfl
@[simp] theorem setValid_env : (s.setValid v).env = s.env := rfl
@[simp] theorem setValid_twice (w) : (s.setValid w).setValid v = s.setValid v := rfl
@[simp] theorem setValid_busy : (s.setValid v).busy = s.busy := rfl
@[simp] theorem setValid_connected : (s.setValid v).connected = s.connected := rfl
end

section
variable (s : State) (v : Sample)
@[simp] theorem setSample_params : (s.setSample v).params = s.params := rfl
@[simp] theorem setSample_cmd : (s.setSample v).cmd = s.cmd := rfl
@[simp] theorem setSample_status : (s.setSample v).status = s.status := rfl
@[simp] theorem setSample_linkcfg : (s.setSample v).linkcfg = s.linkcfg := rfl
@[simp] theorem setSample_resLen : (s.setSample v).resLen = s.resLen := rfl
@[simp] theorem setSample_res : (s.setSample v).res = s.res := rfl
@[simp] theorem setSample_cycle : (s.setSample v).cycle = s.cycle := rfl
@[simp] theorem setSample_valid : (s.setSample v).valid = s.valid := rfl
@[simp] theorem setSample_sample : (s.setSample v).sample = v := rfl
@[simp] theorem setSample_faultState : (s.setSample v).faultState = s.faultState := rfl
@[simp] theorem setSample_errorTally : (s.setSample v).errorTally = s.errorTally := rfl
@[simp] theorem setSample_notifyCount : (s.setSample v).notifyCount = s.notifyCount := rfl
@[simp] theorem setSample_notifyCode : (s.setSample v).notifyCode = s.notifyCode := rfl
@[simp] theorem setSample_pollIntervalUs : (s.setSample v).pollIntervalUs = s.pollIntervalUs := rfl
@[simp] theorem setSample_link : (s.setSample v).link = s.link := rfl
@[simp] theorem setSample_seq : (s.setSample v).seq = s.seq := rfl
@[simp] theorem setSample_notifyTrace : (s.setSample v).notifyTrace = s.notifyTrace := rfl
@[simp] theorem setSample_env : (s.setSample v).env = s.env := rfl
@[simp] theorem setSample_twice (w) : (s.setSample w).setSample v = s.setSample v := rfl
@[simp] theorem setSample_busy : (s.setSample v).busy = s.busy := rfl
@[simp] theorem setSample_connected : (s.setSample v).connected = s.connected := rfl
end

section
variable (s : State) (v : FaultState)
@[simp] theorem setFaultState_params : (s.setFaultState v).params = s.params := rfl
@[simp] theorem setFaultState_cmd : (s.setFaultState v).cmd = s.cmd := rfl
@[simp] theorem setFaultState_status : (s.setFaultState v).status = s.status := rfl
@[simp] theorem setFaultState_linkcfg : (s.setFaultState v).linkcfg = s.linkcfg := rfl
@[simp] theorem setFaultState_resLen : (s.setFaultState v).resLen = s.resLen := rfl
@[simp] theorem setFaultState_res : (s.setFaultState v).res = s.res := rfl
@[simp] theorem setFaultState_cycle : (s.setFaultState v).cycle = s.cycle := rfl
@[simp] theorem setFaultState_valid : (s.setFaultState v).valid = s.valid := rfl
@[simp] theorem setFaultState_sample : (s.setFaultState v).sample = s.sample := rfl
@[simp] theorem setFaultState_faultState : (s.setFaultState v).faultState = v := rfl
@[simp] theorem setFaultState_errorTally : (s.setFaultState v).errorTally = s.errorTally := rfl
@[simp] theorem setFaultState_notifyCount : (s.setFaultState v).notifyCount = s.notifyCount := rfl
@[simp] theorem setFaultState_notifyCode : (s.setFaultState v).notifyCode = s.notifyCode := rfl
@[simp] theorem setFaultState_pollIntervalUs : (s.setFaultState v).pollIntervalUs = s.pollIntervalUs := rfl
@[simp] theorem setFaultState_link : (s.setFaultState v).link = s.link := rfl
@[simp] theorem setFaultState_seq : (s.setFaultState v).seq = s.seq := rfl
@[simp] theorem setFaultState_notifyTrace : (s.setFaultState v).notifyTrace = s.notifyTrace := rfl
@[simp] theorem setFaultState_env : (s.setFaultState v).env = s.env := rfl
@[simp] theorem setFaultState_twice (w) : (s.setFaultState w).setFaultState v = s.setFaultState v := rfl
@[simp] theorem setFaultState_busy : (s.setFaultState v).busy = s.busy := rfl
@[simp] theorem setFaultState_connected : (s.setFaultState v).connected = s.connected := rfl
end

section
variable (s : State) (v : Word32)
@[simp] theorem setErrorTally_params : (s.setErrorTally v).params = s.params := rfl
@[simp] theorem setErrorTally_cmd : (s.setErrorTally v).cmd = s.cmd := rfl
@[simp] theorem setErrorTally_status : (s.setErrorTally v).status = s.status := rfl
@[simp] theorem setErrorTally_linkcfg : (s.setErrorTally v).linkcfg = s.linkcfg := rfl
@[simp] theorem setErrorTally_resLen : (s.setErrorTally v).resLen = s.resLen := rfl
@[simp] theorem setErrorTally_res : (s.setErrorTally v).res = s.res := rfl
@[simp] theorem setErrorTally_cycle : (s.setErrorTally v).cycle = s.cycle := rfl
@[simp] theorem setErrorTally_valid : (s.setErrorTally v).valid = s.valid := rfl
@[simp] theorem setErrorTally_sample : (s.setErrorTally v).sample = s.sample := rfl
@[simp] theorem setErrorTally_faultState : (s.setErrorTally v).faultState = s.faultState := rfl
@[simp] theorem setErrorTally_errorTally : (s.setErrorTally v).errorTally = v := rfl
@[simp] theorem setErrorTally_notifyCount : (s.setErrorTally v).notifyCount = s.notifyCount := rfl
@[simp] theorem setErrorTally_notifyCode : (s.setErrorTally v).notifyCode = s.notifyCode := rfl
@[simp] theorem setErrorTally_pollIntervalUs : (s.setErrorTally v).pollIntervalUs = s.pollIntervalUs := rfl
@[simp] theorem setErrorTally_link : (s.setErrorTally v).link = s.link := rfl
@[simp] theorem setErrorTally_seq : (s.setErrorTally v).seq = s.seq := rfl
@[simp] theorem setErrorTally_notifyTrace : (s.setErrorTally v).notifyTrace = s.notifyTrace := rfl
@[simp] theorem setErrorTally_env : (s.setErrorTally v).env = s.env := rfl
@[simp] theorem setErrorTally_twice (w) : (s.setErrorTally w).setErrorTally v = s.setErrorTally v := rfl
@[simp] theorem setErrorTally_busy : (s.setErrorTally v).busy = s.busy := rfl
@[simp] theorem setErrorTally_connected : (s.setErrorTally v).connected = s.connected := rfl
end

section
variable (s : State) (v : Word32)
@[simp] theorem setNotifyCount_params : (s.setNotifyCount v).params = s.params := rfl
@[simp] theorem setNotifyCount_cmd : (s.setNotifyCount v).cmd = s.cmd := rfl
@[simp] theorem setNotifyCount_status : (s.setNotifyCount v).status = s.status := rfl
@[simp] theorem setNotifyCount_linkcfg : (s.setNotifyCount v).linkcfg = s.linkcfg := rfl
@[simp] theorem setNotifyCount_resLen : (s.setNotifyCount v).resLen = s.resLen := rfl
@[simp] theorem setNotifyCount_res : (s.setNotifyCount v).res = s.res := rfl
@[simp] theorem setNotifyCount_cycle : (s.setNotifyCount v).cycle = s.cycle := rfl
@[simp] theorem setNotifyCount_valid : (s.setNotifyCount v).valid = s.valid := rfl
@[simp] theorem setNotifyCount_sample : (s.setNotifyCount v).sample = s.sample := rfl
@[simp] theorem setNotifyCount_faultState : (s.setNotifyCount v).faultState = s.faultState := rfl
@[simp] theorem setNotifyCount_errorTally : (s.setNotifyCount v).errorTally = s.errorTally := rfl
@[simp] theorem setNotifyCount_notifyCount : (s.setNotifyCount v).notifyCount = v := rfl
@[simp] theorem setNotifyCount_notifyCode : (s.setNotifyCount v).notifyCode = s.notifyCode := rfl
@[simp] theorem setNotifyCount_pollIntervalUs : (s.setNotifyCount v).pollIntervalUs = s.pollIntervalUs := rfl
@[simp] theorem setNotifyCount_link : (s.setNotifyCount v).link = s.link := rfl
@[simp] theorem setNotifyCount_seq : (s.setNotifyCount v).seq = s.seq := rfl
@[simp] theorem setNotifyCount_notifyTrace : (s.setNotifyCount v).notifyTrace = s.notifyTrace := rfl
@[simp] theorem setNotifyCount_env : (s.setNotifyCount v).env = s.env := rfl
@[simp] theorem setNotifyCount_twice (w) : (s.setNotifyCount w).setNotifyCount v = s.setNotifyCount v := rfl
@[simp] theorem setNotifyCount_busy : (s.setNotifyCount v).busy = s.busy := rfl
@[simp] theorem setNotifyCount_connected : (s.setNotifyCount v).connected = s.connected := rfl
end

section
variable (s : State) (v : Word)
@[simp] theorem setNotifyCode_params : (s.setNotifyCode v).params = s.params := rfl
@[simp] theorem setNotifyCode_cmd : (s.setNotifyCode v).cmd = s.cmd := rfl
@[simp] theorem setNotifyCode_status : (s.setNotifyCode v).status = s.status := rfl
@[simp] theorem setNotifyCode_linkcfg : (s.setNotifyCode v).linkcfg = s.linkcfg := rfl
@[simp] theorem setNotifyCode_resLen : (s.setNotifyCode v).resLen = s.resLen := rfl
@[simp] theorem setNotifyCode_res : (s.setNotifyCode v).res = s.res := rfl
@[simp] theorem setNotifyCode_cycle : (s.setNotifyCode v).cycle = s.cycle := rfl
@[simp] theorem setNotifyCode_valid : (s.setNotifyCode v).valid = s.valid := rfl
@[simp] theorem setNotifyCode_sample : (s.setNotifyCode v).sample = s.sample := rfl
@[simp] theorem setNotifyCode_faultState : (s.setNotifyCode v).faultState = s.faultState := rfl
@[simp] theorem setNotifyCode_errorTally : (s.setNotifyCode v).errorTally = s.errorTally := rfl
@[simp] theorem setNotifyCode_notifyCount : (s.setNotifyCode v).notifyCount = s.notifyCount := rfl
@[simp] theorem setNotifyCode_notifyCode : (s.setNotifyCode v).notifyCode = v := rfl
@[simp] theorem setNotifyCode_pollIntervalUs : (s.setNotifyCode v).pollIntervalUs = s.pollIntervalUs := rfl
@[simp] theorem setNotifyCode_link : (s.setNotifyCode v).link = s.link := rfl
@[simp] theorem setNotifyCode_seq : (s.setNotifyCode v).seq = s.seq := rfl
@[simp] theorem setNotifyCode_notifyTrace : (s.setNotifyCode v).notifyTrace = s.notifyTrace := rfl
@[simp] theorem setNotifyCode_env : (s.setNotifyCode v).env = s.env := rfl
@[simp] theorem setNotifyCode_twice (w) : (s.setNotifyCode w).setNotifyCode v = s.setNotifyCode v := rfl
@[simp] theorem setNotifyCode_busy : (s.setNotifyCode v).busy = s.busy := rfl
@[simp] theorem setNotifyCode_connected : (s.setNotifyCode v).connected = s.connected := rfl
end

section
variable (s : State) (v : Word32)
@[simp] theorem setPollIntervalUs_params : (s.setPollIntervalUs v).params = s.params := rfl
@[simp] theorem setPollIntervalUs_cmd : (s.setPollIntervalUs v).cmd = s.cmd := rfl
@[simp] theorem setPollIntervalUs_status : (s.setPollIntervalUs v).status = s.status := rfl
@[simp] theorem setPollIntervalUs_linkcfg : (s.setPollIntervalUs v).linkcfg = s.linkcfg := rfl
@[simp] theorem setPollIntervalUs_resLen : (s.setPollIntervalUs v).resLen = s.resLen := rfl
@[simp] theorem setPollIntervalUs_res : (s.setPollIntervalUs v).res = s.res := rfl
@[simp] theorem setPollIntervalUs_cycle : (s.setPollIntervalUs v).cycle = s.cycle := rfl
@[simp] theorem setPollIntervalUs_valid : (s.setPollIntervalUs v).valid = s.valid := rfl
@[simp] theorem setPollIntervalUs_sample : (s.setPollIntervalUs v).sample = s.sample := rfl
@[simp] theorem setPollIntervalUs_faultState : (s.setPollIntervalUs v).faultState = s.faultState := rfl
@[simp] theorem setPollIntervalUs_errorTally : (s.setPollIntervalUs v).errorTally = s.errorTally := rfl
@[simp] theorem setPollIntervalUs_notifyCount : (s.setPollIntervalUs v).notifyCount = s.notifyCount := rfl
@[simp] theorem setPollIntervalUs_notifyCode : (s.setPollIntervalUs v).notifyCode = s.notifyCode := rfl
@[simp] theorem setPollIntervalUs_pollIntervalUs : (s.setPollIntervalUs v).pollIntervalUs = v := rfl
@[simp] theorem setPollIntervalUs_link : (s.setPollIntervalUs v).link = s.link := rfl
@[simp] theorem setPollIntervalUs_seq : (s.setPollIntervalUs v).seq = s.seq := rfl
@[simp] theorem setPollIntervalUs_notifyTrace : (s.setPollIntervalUs v).notifyTrace = s.notifyTrace := rfl
@[simp] theorem setPollIntervalUs_env : (s.setPollIntervalUs v).env = s.env := rfl
@[simp] theorem setPollIntervalUs_twice (w) : (s.setPollIntervalUs w).setPollIntervalUs v = s.setPollIntervalUs v := rfl
@[simp] theorem setPollIntervalUs_busy : (s.setPollIntervalUs v).busy = s.busy := rfl
@[simp] theorem setPollIntervalUs_connected : (s.setPollIntervalUs v).connected = s.connected := rfl
end

section
variable (s : State) (v : Link)
@[simp] theorem setLink_params : (s.setLink v).params = s.params := rfl
@[simp] theorem setLink_cmd : (s.setLink v).cmd = s.cmd := rfl
@[simp] theorem setLink_status : (s.setLink v).status = s.status := rfl
@[simp] theorem setLink_linkcfg : (s.setLink v).linkcfg = s.linkcfg := rfl
@[simp] theorem setLink_resLen : (s.setLink v).resLen = s.resLen := rfl
@[simp] theorem setLink_res : (s.setLink v).res = s.res := rfl
@[simp] theorem setLink_cycle : (s.setLink v).cycle = s.cycle := rfl
@[simp] theorem setLink_valid : (s.setLink v).valid = s.valid := rfl
@[simp] theorem setLink_sample : (s.setLink v).sample = s.sample := rfl
@[simp] theorem setLink_faultState : (s.setLink v).faultState = s.faultState := rfl
@[simp] theorem setLink_errorTally : (s.setLink v).errorTally = s.errorTally := rfl
@[simp] theorem setLink_notifyCount : (s.setLink v).notifyCount = s.notifyCount := rfl
@[simp] theorem setLink_notifyCode : (s.setLink v).notifyCode = s.notifyCode := rfl
@[simp] theorem setLink_pollIntervalUs : (s.setLink v).pollIntervalUs = s.pollIntervalUs := rfl
@[simp] theorem setLink_link : (s.setLink v).link = v := rfl
@[simp] theorem setLink_seq : (s.setLink v).seq = s.seq := rfl
@[simp] theorem setLink_notifyTrace : (s.setLink v).notifyTrace = s.notifyTrace := rfl
@[simp] theorem setLink_env : (s.setLink v).env = s.env := rfl
@[simp] theorem setLink_twice (w) : (s.setLink w).setLink v = s.setLink v := rfl
@[simp] theorem setLink_busy : (s.setLink v).busy = s.busy := rfl
@[simp] theorem setLink_connected : (s.setLink v).connected = (v == .connected) := rfl
end

section
variable (s : State) (v : Seq)
@[simp] theorem setSeq_params : (s.setSeq v).params = s.params := rfl
@[simp] theorem setSeq_cmd : (s.setSeq v).cmd = s.cmd := rfl
@[simp] theorem setSeq_status : (s.setSeq v).status = s.status := rfl
@[simp] theorem setSeq_linkcfg : (s.setSeq v).linkcfg = s.linkcfg := rfl
@[simp] theorem setSeq_resLen : (s.setSeq v).resLen = s.resLen := rfl
@[simp] theorem setSeq_res : (s.setSeq v).res = s.res := rfl
@[simp] theorem setSeq_cycle : (s.setSeq v).cycle = s.cycle := rfl
@[simp] theorem setSeq_valid : (s.setSeq v).valid = s.valid := rfl
@[simp] theorem setSeq_sample : (s.setSeq v).sample = s.sample := rfl
@[simp] theorem setSeq_faultState : (s.setSeq v).faultState = s.faultState := rfl
@[simp] theorem setSeq_errorTally : (s.setSeq v).errorTally = s.errorTally := rfl
@[simp] theorem setSeq_notifyCount : (s.setSeq v).notifyCount = s.notifyCount := rfl
@[simp] theorem setSeq_notifyCode : (s.setSeq v).notifyCode = s.notifyCode := rfl
@[simp] theorem setSeq_pollIntervalUs : (s.setSeq v).pollIntervalUs = s.pollIntervalUs := rfl
@[simp] theorem setSeq_link : (s.setSeq v).link = s.link := rfl
@[simp] theorem setSeq_seq : (s.setSeq v).seq = v := rfl
@[simp] theorem setSeq_notifyTrace : (s.setSeq v).notifyTrace = s.notifyTrace := rfl
@[simp] theorem setSeq_env : (s.setSeq v).env = s.env := rfl
@[simp] theorem setSeq_twice (w) : (s.setSeq w).setSeq v = s.setSeq v := rfl
@[simp] theorem setSeq_busy : (s.setSeq v).busy = (v.phase != .idle) := rfl
@[simp] theorem setSeq_connected : (s.setSeq v).connected = s.connected := rfl
end

section
variable (s : State) (v : List Notify)
@[simp] theorem setNotifyTrace_params : (s.setNotifyTrace v).params = s.params := rfl
@[simp] theorem setNotifyTrace_cmd : (s.setNotifyTrace v).cmd = s.cmd := rfl
@[simp] theorem setNotifyTrace_status : (s.setNotifyTrace v).status = s.status := rfl
@[simp] theorem setNotifyTrace_linkcfg : (s.setNotifyTrace v).linkcfg = s.linkcfg := rfl
@[simp] theorem setNotifyTrace_resLen : (s.setNotifyTrace v).resLen = s.resLen := rfl
@[simp] theorem setNotifyTrace_res : (s.setNotifyTrace v).res = s.res := rfl
@[simp] theorem setNotifyTrace_cycle : (s.setNotifyTrace v).cycle = s.cycle := rfl
@[simp] theorem setNotifyTrace_valid : (s.setNotifyTrace v).valid = s.valid := rfl
@[simp] theorem setNotifyTrace_sample : (s.setNotifyTrace v).sample = s.sample := rfl
@[simp] theorem setNotifyTrace_faultState : (s.setNotifyTrace v).faultState = s.faultState := rfl
@[simp] theorem setNotifyTrace_errorTally : (s.setNotifyTrace v).errorTally = s.errorTally := rfl
@[simp] theorem setNotifyTrace_notifyCount : (s.setNotifyTrace v).notifyCount = s.notifyCount := rfl
@[simp] theorem setNotifyTrace_notifyCode : (s.setNotifyTrace v).notifyCode = s.notifyCode := rfl
@[simp] theorem setNotifyTrace_pollIntervalUs : (s.setNotifyTrace v).pollIntervalUs = s.pollIntervalUs := rfl
@[simp] theorem setNotifyTrace_link : (s.setNotifyTrace v).link = s.link := rfl
@[simp] theorem setNotifyTrace_seq : (s.setNotifyTrace v).seq = s.seq := rfl
@[simp] theorem setNotifyTrace_notifyTrace : (s.setNotifyTrace v).notifyTrace = v := rfl
@[simp] theorem setNotifyTrace_env : (s.setNotifyTrace v).env = s.env := rfl
@[simp] theorem setNotifyTrace_twice (w) : (s.setNotifyTrace w).setNotifyTrace v = s.setNotifyTrace v := rfl
@[simp] theorem setNotifyTrace_busy : (s.setNotifyTrace v).busy = s.busy := rfl
@[simp] theorem setNotifyTrace_connected : (s.setNotifyTrace v).connected = s.connected := rfl
end

section
variable (s : State) (v : Env)
@[simp] theorem setEnv_params : (s.setEnv v).params = s.params := rfl
@[simp] theorem setEnv_cmd : (s.setEnv v).cmd = s.cmd := rfl
@[simp] theorem setEnv_status : (s.setEnv v).status = s.status := rfl
@[simp] theorem setEnv_linkcfg : (s.setEnv v).linkcfg = s.linkcfg := rfl
@[simp] theorem setEnv_resLen : (s.setEnv v).resLen = s.resLen := rfl
@[simp] theorem setEnv_res : (s.setEnv v).res = s.res := rfl
@[simp] theorem setEnv_cycle : (s.setEnv v).cycle = s.cycle := rfl
@[simp] theorem setEnv_valid : (s.setEnv v).valid = s.valid := rfl
@[simp] theorem setEnv_sample : (s.setEnv v).sample = s.sample := rfl
@[simp] theorem setEnv_faultState : (s.setEnv v).faultState = s.faultState := rfl
@[simp] theorem setEnv_errorTally : (s.setEnv v).errorTally = s.errorTally := rfl
@[simp] theorem setEnv_notifyCount : (s.setEnv v).notifyCount = s.notifyCount := rfl
@[simp] theorem setEnv_notifyCode : (s.setEnv v).notifyCode = s.notifyCode := rfl
@[simp] theorem setEnv_pollIntervalUs : (s.setEnv v).pollIntervalUs = s.pollIntervalUs := rfl
@[simp] theorem setEnv_link : (s.setEnv v).link = s.link := rfl
@[simp] theorem setEnv_seq : (s.setEnv v).seq = s.seq := rfl
@[simp] theorem setEnv_notifyTrace : (s.setEnv v).notifyTrace = s.notifyTrace := rfl
@[simp] theorem setEnv_env : (s.setEnv v).env = v := rfl
@[simp] theorem setEnv_twice (w) : (s.setEnv w).setEnv v = s.setEnv v := rfl
@[simp] theorem setEnv_busy : (s.setEnv v).busy = s.busy := rfl
@[simp] theorem setEnv_connected : (s.setEnv v).connected = s.connected := rfl
end

section
variable (p : Params) (env : Env)
@[simp] theorem resetWith_params : (State.resetWith p env).params = p := rfl
@[simp] theorem resetWith_cmd : (State.resetWith p env).cmd = 0 := rfl
@[simp] theorem resetWith_status : (State.resetWith p env).status = ⟨false, false, false, .ok, .ok, 0⟩ := rfl
@[simp] theorem resetWith_linkcfg : (State.resetWith p env).linkcfg = ⟨0, 0, false⟩ := rfl
@[simp] theorem resetWith_resLen : (State.resetWith p env).resLen = 0 := rfl
@[simp] theorem resetWith_res : (State.resetWith p env).res = List.replicate p.maxBlock 0 := rfl
@[simp] theorem resetWith_cycle : (State.resetWith p env).cycle = CycleResult.zero := rfl
@[simp] theorem resetWith_valid : (State.resetWith p env).valid = ⟨false, false, false, false, false⟩ := rfl
@[simp] theorem resetWith_sample : (State.resetWith p env).sample = Sample.zero := rfl
@[simp] theorem resetWith_faultState : (State.resetWith p env).faultState = .clear := rfl
@[simp] theorem resetWith_errorTally : (State.resetWith p env).errorTally = 0 := rfl
@[simp] theorem resetWith_notifyCount : (State.resetWith p env).notifyCount = 0 := rfl
@[simp] theorem resetWith_notifyCode : (State.resetWith p env).notifyCode = 0 := rfl
@[simp] theorem resetWith_pollIntervalUs : (State.resetWith p env).pollIntervalUs = 0 := rfl
@[simp] theorem resetWith_link : (State.resetWith p env).link = .disconnected := rfl
@[simp] theorem resetWith_seq : (State.resetWith p env).seq = ⟨.idle, .speed, 0, 0⟩ := rfl
@[simp] theorem resetWith_notifyTrace : (State.resetWith p env).notifyTrace = [] := rfl
@[simp] theorem resetWith_env : (State.resetWith p env).env = env := rfl
@[simp] theorem resetWith_busy : (State.resetWith p env).busy = false := rfl
@[simp] theorem resetWith_connected : (State.resetWith p env).connected = false := rfl
end

end Sys2Proof.Machine.State
end

