-- ==== Sys2Proof/Laws/Fields.lean ====
section
/-! SUPPORT. What each straight-line operation does to each field: one lemma per field, so that no later proof unfolds
the operation. -/

namespace Sys2Proof.Machine

section
variable (s : State) (c : Cause)
@[simp] theorem complete_params : (complete c s).params = s.params := rfl
@[simp] theorem complete_cmd : (complete c s).cmd = s.cmd := rfl
@[simp] theorem complete_status : (complete c s).status = completeFlags c s.status := rfl
@[simp] theorem complete_linkcfg : (complete c s).linkcfg = s.linkcfg := rfl
@[simp] theorem complete_resLen : (complete c s).resLen = s.resLen := rfl
@[simp] theorem complete_res : (complete c s).res = s.res := rfl
@[simp] theorem complete_cycle : (complete c s).cycle = s.cycle := rfl
@[simp] theorem complete_valid : (complete c s).valid = s.valid := rfl
@[simp] theorem complete_sample : (complete c s).sample = s.sample := rfl
@[simp] theorem complete_faultState : (complete c s).faultState = s.faultState := rfl
@[simp] theorem complete_errorTally : (complete c s).errorTally = s.errorTally := rfl
@[simp] theorem complete_notifyCount : (complete c s).notifyCount = s.notifyCount := rfl
@[simp] theorem complete_notifyCode : (complete c s).notifyCode = s.notifyCode := rfl
@[simp] theorem complete_pollIntervalUs : (complete c s).pollIntervalUs = s.pollIntervalUs := rfl
@[simp] theorem complete_link : (complete c s).link = s.link := rfl
@[simp] theorem complete_seq : (complete c s).seq = { s.seq with phase := .idle } := rfl
@[simp] theorem complete_notifyTrace : (complete c s).notifyTrace = s.notifyTrace := rfl
@[simp] theorem complete_env : (complete c s).env = s.env := rfl
@[simp] theorem complete_busy : (complete c s).busy = false := rfl
@[simp] theorem complete_connected : (complete c s).connected = s.connected := rfl
end

section
variable (s : State) (w : CmdWord)
@[simp] theorem latch_params : (latch w s).params = s.params := rfl
@[simp] theorem latch_cmd : (latch w s).cmd = w := rfl
@[simp] theorem latch_status : (latch w s).status = acceptFlags s.status := rfl
@[simp] theorem latch_linkcfg : (latch w s).linkcfg = s.linkcfg := rfl
@[simp] theorem latch_resLen : (latch w s).resLen = s.resLen := rfl
@[simp] theorem latch_res : (latch w s).res = s.res := rfl
@[simp] theorem latch_cycle : (latch w s).cycle = s.cycle := rfl
@[simp] theorem latch_valid : (latch w s).valid = s.valid := rfl
@[simp] theorem latch_sample : (latch w s).sample = s.sample := rfl
@[simp] theorem latch_faultState : (latch w s).faultState = s.faultState := rfl
@[simp] theorem latch_errorTally : (latch w s).errorTally = s.errorTally := rfl
@[simp] theorem latch_notifyCount : (latch w s).notifyCount = s.notifyCount := rfl
@[simp] theorem latch_notifyCode : (latch w s).notifyCode = s.notifyCode := rfl
@[simp] theorem latch_pollIntervalUs : (latch w s).pollIntervalUs = s.pollIntervalUs := rfl
@[simp] theorem latch_link : (latch w s).link = s.link := rfl
@[simp] theorem latch_seq : (latch w s).seq = { s.seq with cur := w } := rfl
@[simp] theorem latch_notifyTrace : (latch w s).notifyTrace = s.notifyTrace := rfl
@[simp] theorem latch_env : (latch w s).env = s.env := rfl
@[simp] theorem latch_busy : (latch w s).busy = s.busy := rfl
@[simp] theorem latch_connected : (latch w s).connected = s.connected := rfl
end

section
variable (s : State)
@[simp] theorem reject_params : (reject s).params = s.params := rfl
@[simp] theorem reject_cmd : (reject s).cmd = s.cmd := rfl
@[simp] theorem reject_status : (reject s).status = overrunFlags s.status := rfl
@[simp] theorem reject_linkcfg : (reject s).linkcfg = s.linkcfg := rfl
@[simp] theorem reject_resLen : (reject s).resLen = s.resLen := rfl
@[simp] theorem reject_res : (reject s).res = s.res := rfl
@[simp] theorem reject_cycle : (reject s).cycle = s.cycle := rfl
@[simp] theorem reject_valid : (reject s).valid = s.valid := rfl
@[simp] theorem reject_sample : (reject s).sample = s.sample := rfl
@[simp] theorem reject_faultState : (reject s).faultState = s.faultState := rfl
@[simp] theorem reject_errorTally : (reject s).errorTally = s.errorTally := rfl
@[simp] theorem reject_notifyCount : (reject s).notifyCount = s.notifyCount := rfl
@[simp] theorem reject_notifyCode : (reject s).notifyCode = s.notifyCode := rfl
@[simp] theorem reject_pollIntervalUs : (reject s).pollIntervalUs = s.pollIntervalUs := rfl
@[simp] theorem reject_link : (reject s).link = s.link := rfl
@[simp] theorem reject_seq : (reject s).seq = s.seq := rfl
@[simp] theorem reject_notifyTrace : (reject s).notifyTrace = s.notifyTrace := rfl
@[simp] theorem reject_env : (reject s).env = s.env := rfl
@[simp] theorem reject_busy : (reject s).busy = s.busy := rfl
@[simp] theorem reject_connected : (reject s).connected = s.connected := rfl
end

section
variable (s : State) (b : Blk)
@[simp] theorem goto_params : (goto b s).params = s.params := rfl
@[simp] theorem goto_cmd : (goto b s).cmd = s.cmd := rfl
@[simp] theorem goto_status : (goto b s).status = s.status := rfl
@[simp] theorem goto_linkcfg : (goto b s).linkcfg = s.linkcfg := rfl
@[simp] theorem goto_resLen : (goto b s).resLen = s.resLen := rfl
@[simp] theorem goto_res : (goto b s).res = s.res := rfl
@[simp] theorem goto_cycle : (goto b s).cycle = s.cycle := rfl
@[simp] theorem goto_valid : (goto b s).valid = s.valid := rfl
@[simp] theorem goto_sample : (goto b s).sample = s.sample := rfl
@[simp] theorem goto_faultState : (goto b s).faultState = s.faultState := rfl
@[simp] theorem goto_errorTally : (goto b s).errorTally = s.errorTally := rfl
@[simp] theorem goto_notifyCount : (goto b s).notifyCount = s.notifyCount := rfl
@[simp] theorem goto_notifyCode : (goto b s).notifyCode = s.notifyCode := rfl
@[simp] theorem goto_pollIntervalUs : (goto b s).pollIntervalUs = s.pollIntervalUs := rfl
@[simp] theorem goto_link : (goto b s).link = s.link := rfl
@[simp] theorem goto_seq : (goto b s).seq = { s.seq with blk := b, att := 0 } := rfl
@[simp] theorem goto_notifyTrace : (goto b s).notifyTrace = s.notifyTrace := rfl
@[simp] theorem goto_env : (goto b s).env = s.env := rfl
@[simp] theorem goto_busy : (goto b s).busy = s.busy := rfl
@[simp] theorem goto_connected : (goto b s).connected = s.connected := rfl
end

section
variable (s : State) (c : Word)
@[simp] theorem notify_params : (notify c s).params = s.params := rfl
@[simp] theorem notify_cmd : (notify c s).cmd = s.cmd := rfl
@[simp] theorem notify_status : (notify c s).status = s.status := rfl
@[simp] theorem notify_linkcfg : (notify c s).linkcfg = s.linkcfg := rfl
@[simp] theorem notify_resLen : (notify c s).resLen = s.resLen := rfl
@[simp] theorem notify_res : (notify c s).res = s.res := rfl
@[simp] theorem notify_cycle : (notify c s).cycle = s.cycle := rfl
@[simp] theorem notify_valid : (notify c s).valid = s.valid := rfl
@[simp] theorem notify_sample : (notify c s).sample = s.sample := rfl
@[simp] theorem notify_faultState : (notify c s).faultState = s.faultState := rfl
@[simp] theorem notify_errorTally : (notify c s).errorTally = s.errorTally := rfl
@[simp] theorem notify_notifyCount : (notify c s).notifyCount = wrapInc32 s.notifyCount := rfl
@[simp] theorem notify_notifyCode : (notify c s).notifyCode = c := rfl
@[simp] theorem notify_pollIntervalUs : (notify c s).pollIntervalUs = s.pollIntervalUs := rfl
@[simp] theorem notify_link : (notify c s).link = s.link := rfl
@[simp] theorem notify_seq : (notify c s).seq = s.seq := rfl
@[simp] theorem notify_notifyTrace : (notify c s).notifyTrace = s.notifyTrace ++ [⟨c, faultMsg s.params c⟩] := rfl
@[simp] theorem notify_env : (notify c s).env = s.env := rfl
@[simp] theorem notify_busy : (notify c s).busy = s.busy := rfl
@[simp] theorem notify_connected : (notify c s).connected = s.connected := rfl
end

section
variable (s : State) (g : LinkCfg)
@[simp] theorem openLink_params : (openLink g s).params = s.params := rfl
@[simp] theorem openLink_cmd : (openLink g s).cmd = s.cmd := rfl
@[simp] theorem openLink_status : (openLink g s).status = s.status := rfl
@[simp] theorem openLink_linkcfg : (openLink g s).linkcfg = g := rfl
@[simp] theorem openLink_resLen : (openLink g s).resLen = s.resLen := rfl
@[simp] theorem openLink_res : (openLink g s).res = s.res := rfl
@[simp] theorem openLink_cycle : (openLink g s).cycle = s.cycle := rfl
@[simp] theorem openLink_valid : (openLink g s).valid = s.valid := rfl
@[simp] theorem openLink_sample : (openLink g s).sample = s.sample := rfl
@[simp] theorem openLink_faultState : (openLink g s).faultState = s.faultState := rfl
@[simp] theorem openLink_errorTally : (openLink g s).errorTally = s.errorTally := rfl
@[simp] theorem openLink_notifyCount : (openLink g s).notifyCount = s.notifyCount := rfl
@[simp] theorem openLink_notifyCode : (openLink g s).notifyCode = s.notifyCode := rfl
@[simp] theorem openLink_pollIntervalUs : (openLink g s).pollIntervalUs = s.pollIntervalUs := rfl
@[simp] theorem openLink_link : (openLink g s).link = .connected := rfl
@[simp] theorem openLink_seq : (openLink g s).seq = s.seq := rfl
@[simp] theorem openLink_notifyTrace : (openLink g s).notifyTrace = s.notifyTrace := rfl
@[simp] theorem openLink_env : (openLink g s).env = s.env := rfl
@[simp] theorem openLink_busy : (openLink g s).busy = s.busy := rfl
@[simp] theorem openLink_connected : (openLink g s).connected = true := rfl
end

section
variable (s : State) (ws : List Word)
@[simp] theorem storeRes_params : (storeRes ws s).params = s.params := rfl
@[simp] theorem storeRes_cmd : (storeRes ws s).cmd = s.cmd := rfl
@[simp] theorem storeRes_status : (storeRes ws s).status = s.status := rfl
@[simp] theorem storeRes_linkcfg : (storeRes ws s).linkcfg = s.linkcfg := rfl
@[simp] theorem storeRes_resLen : (storeRes ws s).resLen = BitVec.ofNat 8 ws.length := rfl
@[simp] theorem storeRes_res : (storeRes ws s).res = ws ++ s.res.drop ws.length := rfl
@[simp] theorem storeRes_cycle : (storeRes ws s).cycle = s.cycle := rfl
@[simp] theorem storeRes_valid : (storeRes ws s).valid = s.valid := rfl
@[simp] theorem storeRes_sample : (storeRes ws s).sample = s.sample := rfl
@[simp] theorem storeRes_faultState : (storeRes ws s).faultState = s.faultState := rfl
@[simp] theorem storeRes_errorTally : (storeRes ws s).errorTally = s.errorTally := rfl
@[simp] theorem storeRes_notifyCount : (storeRes ws s).notifyCount = s.notifyCount := rfl
@[simp] theorem storeRes_notifyCode : (storeRes ws s).notifyCode = s.notifyCode := rfl
@[simp] theorem storeRes_pollIntervalUs : (storeRes ws s).pollIntervalUs = s.pollIntervalUs := rfl
@[simp] theorem storeRes_link : (storeRes ws s).link = s.link := rfl
@[simp] theorem storeRes_seq : (storeRes ws s).seq = s.seq := rfl
@[simp] theorem storeRes_notifyTrace : (storeRes ws s).notifyTrace = s.notifyTrace := rfl
@[simp] theorem storeRes_env : (storeRes ws s).env = s.env := rfl
@[simp] theorem storeRes_busy : (storeRes ws s).busy = s.busy := rfl
@[simp] theorem storeRes_connected : (storeRes ws s).connected = s.connected := rfl
end

section
variable (s : State)
@[simp] theorem countFailure_params : (countFailure s).params = s.params := rfl
@[simp] theorem countFailure_cmd : (countFailure s).cmd = s.cmd := rfl
@[simp] theorem countFailure_status : (countFailure s).status = s.status := rfl
@[simp] theorem countFailure_linkcfg : (countFailure s).linkcfg = s.linkcfg := rfl
@[simp] theorem countFailure_resLen : (countFailure s).resLen = s.resLen := rfl
@[simp] theorem countFailure_res : (countFailure s).res = s.res := rfl
@[simp] theorem countFailure_cycle : (countFailure s).cycle = s.cycle := rfl
@[simp] theorem countFailure_valid : (countFailure s).valid = s.valid := rfl
@[simp] theorem countFailure_sample : (countFailure s).sample = s.sample := rfl
@[simp] theorem countFailure_faultState : (countFailure s).faultState = s.faultState := rfl
@[simp] theorem countFailure_errorTally : (countFailure s).errorTally = satInc32 s.errorTally := rfl
@[simp] theorem countFailure_notifyCount : (countFailure s).notifyCount = s.notifyCount := rfl
@[simp] theorem countFailure_notifyCode : (countFailure s).notifyCode = s.notifyCode := rfl
@[simp] theorem countFailure_pollIntervalUs : (countFailure s).pollIntervalUs = s.pollIntervalUs := rfl
@[simp] theorem countFailure_link : (countFailure s).link = s.link := rfl
@[simp] theorem countFailure_seq : (countFailure s).seq = s.seq := rfl
@[simp] theorem countFailure_notifyTrace : (countFailure s).notifyTrace = s.notifyTrace := rfl
@[simp] theorem countFailure_env : (countFailure s).env = s.env := rfl
@[simp] theorem countFailure_busy : (countFailure s).busy = s.busy := rfl
@[simp] theorem countFailure_connected : (countFailure s).connected = s.connected := rfl
end

section
variable (s : State) (req : List Byte)
@[simp] theorem transact_params : (transact s req).params = s.params := rfl
@[simp] theorem transact_cmd : (transact s req).cmd = s.cmd := rfl
@[simp] theorem transact_status : (transact s req).status = xferFlags (nextVerdict s req).cause (nextVerdict s req).exc s.status := rfl
@[simp] theorem transact_linkcfg : (transact s req).linkcfg = s.linkcfg := rfl
@[simp] theorem transact_resLen : (transact s req).resLen = s.resLen := rfl
@[simp] theorem transact_res : (transact s req).res = s.res := rfl
@[simp] theorem transact_cycle : (transact s req).cycle = s.cycle := rfl
@[simp] theorem transact_valid : (transact s req).valid = s.valid := rfl
@[simp] theorem transact_sample : (transact s req).sample = s.sample := rfl
@[simp] theorem transact_faultState : (transact s req).faultState = s.faultState := rfl
@[simp] theorem transact_errorTally : (transact s req).errorTally = s.errorTally := rfl
@[simp] theorem transact_notifyCount : (transact s req).notifyCount = s.notifyCount := rfl
@[simp] theorem transact_notifyCode : (transact s req).notifyCode = s.notifyCode := rfl
@[simp] theorem transact_pollIntervalUs : (transact s req).pollIntervalUs = s.pollIntervalUs := rfl
@[simp] theorem transact_link : (transact s req).link = s.link := rfl
@[simp] theorem transact_seq : (transact s req).seq = s.seq := rfl
@[simp] theorem transact_notifyTrace : (transact s req).notifyTrace = s.notifyTrace := rfl
@[simp] theorem transact_env : (transact s req).env = s.env.transacted req := rfl
@[simp] theorem transact_busy : (transact s req).busy = s.busy := rfl
@[simp] theorem transact_connected : (transact s req).connected = s.connected := rfl
end

section
variable (s : State) (a : List HostAction)
@[simp] theorem withAgenda_params : (s.withAgenda a).params = s.params := rfl
@[simp] theorem withAgenda_cmd : (s.withAgenda a).cmd = s.cmd := rfl
@[simp] theorem withAgenda_status : (s.withAgenda a).status = s.status := rfl
@[simp] theorem withAgenda_linkcfg : (s.withAgenda a).linkcfg = s.linkcfg := rfl
@[simp] theorem withAgenda_resLen : (s.withAgenda a).resLen = s.resLen := rfl
@[simp] theorem withAgenda_res : (s.withAgenda a).res = s.res := rfl
@[simp] theorem withAgenda_cycle : (s.withAgenda a).cycle = s.cycle := rfl
@[simp] theorem withAgenda_valid : (s.withAgenda a).valid = s.valid := rfl
@[simp] theorem withAgenda_sample : (s.withAgenda a).sample = s.sample := rfl
@[simp] theorem withAgenda_faultState : (s.withAgenda a).faultState = s.faultState := rfl
@[simp] theorem withAgenda_errorTally : (s.withAgenda a).errorTally = s.errorTally := rfl
@[simp] theorem withAgenda_notifyCount : (s.withAgenda a).notifyCount = s.notifyCount := rfl
@[simp] theorem withAgenda_notifyCode : (s.withAgenda a).notifyCode = s.notifyCode := rfl
@[simp] theorem withAgenda_pollIntervalUs : (s.withAgenda a).pollIntervalUs = s.pollIntervalUs := rfl
@[simp] theorem withAgenda_link : (s.withAgenda a).link = s.link := rfl
@[simp] theorem withAgenda_seq : (s.withAgenda a).seq = s.seq := rfl
@[simp] theorem withAgenda_notifyTrace : (s.withAgenda a).notifyTrace = s.notifyTrace := rfl
@[simp] theorem withAgenda_env : (s.withAgenda a).env = { s.env with agenda := a } := rfl
@[simp] theorem withAgenda_busy : (s.withAgenda a).busy = s.busy := rfl
@[simp] theorem withAgenda_connected : (s.withAgenda a).connected = s.connected := rfl
end

section
variable (s : State) (w : List Word)
@[simp] theorem storeSpeed_params : (storeSpeed w s).params = s.params := rfl
@[simp] theorem storeSpeed_cmd : (storeSpeed w s).cmd = s.cmd := rfl
@[simp] theorem storeSpeed_status : (storeSpeed w s).status = s.status := rfl
@[simp] theorem storeSpeed_linkcfg : (storeSpeed w s).linkcfg = s.linkcfg := rfl
@[simp] theorem storeSpeed_resLen : (storeSpeed w s).resLen = s.resLen := rfl
@[simp] theorem storeSpeed_res : (storeSpeed w s).res = s.res := rfl
@[simp] theorem storeSpeed_cycle : (storeSpeed w s).cycle = { s.cycle with speedOk := true } := rfl
@[simp] theorem storeSpeed_valid : (storeSpeed w s).valid = { s.valid with speed := true } := rfl
@[simp] theorem storeSpeed_sample : (storeSpeed w s).sample = decodeSpeed w s.sample := rfl
@[simp] theorem storeSpeed_faultState : (storeSpeed w s).faultState = s.faultState := rfl
@[simp] theorem storeSpeed_errorTally : (storeSpeed w s).errorTally = s.errorTally := rfl
@[simp] theorem storeSpeed_notifyCount : (storeSpeed w s).notifyCount = s.notifyCount := rfl
@[simp] theorem storeSpeed_notifyCode : (storeSpeed w s).notifyCode = s.notifyCode := rfl
@[simp] theorem storeSpeed_pollIntervalUs : (storeSpeed w s).pollIntervalUs = s.pollIntervalUs := rfl
@[simp] theorem storeSpeed_link : (storeSpeed w s).link = s.link := rfl
@[simp] theorem storeSpeed_seq : (storeSpeed w s).seq = s.seq := rfl
@[simp] theorem storeSpeed_notifyTrace : (storeSpeed w s).notifyTrace = s.notifyTrace := rfl
@[simp] theorem storeSpeed_env : (storeSpeed w s).env = s.env := rfl
@[simp] theorem storeSpeed_busy : (storeSpeed w s).busy = s.busy := rfl
@[simp] theorem storeSpeed_connected : (storeSpeed w s).connected = s.connected := rfl
end

section
variable (s : State) (w : List Word)
@[simp] theorem storeTorque_params : (storeTorque w s).params = s.params := rfl
@[simp] theorem storeTorque_cmd : (storeTorque w s).cmd = s.cmd := rfl
@[simp] theorem storeTorque_status : (storeTorque w s).status = s.status := rfl
@[simp] theorem storeTorque_linkcfg : (storeTorque w s).linkcfg = s.linkcfg := rfl
@[simp] theorem storeTorque_resLen : (storeTorque w s).resLen = s.resLen := rfl
@[simp] theorem storeTorque_res : (storeTorque w s).res = s.res := rfl
@[simp] theorem storeTorque_cycle : (storeTorque w s).cycle = { s.cycle with torqueOk := true } := rfl
@[simp] theorem storeTorque_valid : (storeTorque w s).valid = { s.valid with torque := true } := rfl
@[simp] theorem storeTorque_sample : (storeTorque w s).sample = decodeTorque w s.sample := rfl
@[simp] theorem storeTorque_faultState : (storeTorque w s).faultState = s.faultState := rfl
@[simp] theorem storeTorque_errorTally : (storeTorque w s).errorTally = s.errorTally := rfl
@[simp] theorem storeTorque_notifyCount : (storeTorque w s).notifyCount = s.notifyCount := rfl
@[simp] theorem storeTorque_notifyCode : (storeTorque w s).notifyCode = s.notifyCode := rfl
@[simp] theorem storeTorque_pollIntervalUs : (storeTorque w s).pollIntervalUs = s.pollIntervalUs := rfl
@[simp] theorem storeTorque_link : (storeTorque w s).link = s.link := rfl
@[simp] theorem storeTorque_seq : (storeTorque w s).seq = s.seq := rfl
@[simp] theorem storeTorque_notifyTrace : (storeTorque w s).notifyTrace = s.notifyTrace := rfl
@[simp] theorem storeTorque_env : (storeTorque w s).env = s.env := rfl
@[simp] theorem storeTorque_busy : (storeTorque w s).busy = s.busy := rfl
@[simp] theorem storeTorque_connected : (storeTorque w s).connected = s.connected := rfl
end

section
variable (s : State) (w : List Word)
@[simp] theorem storeIo_params : (storeIo w s).params = s.params := rfl
@[simp] theorem storeIo_cmd : (storeIo w s).cmd = s.cmd := rfl
@[simp] theorem storeIo_status : (storeIo w s).status = s.status := rfl
@[simp] theorem storeIo_linkcfg : (storeIo w s).linkcfg = s.linkcfg := rfl
@[simp] theorem storeIo_resLen : (storeIo w s).resLen = s.resLen := rfl
@[simp] theorem storeIo_res : (storeIo w s).res = s.res := rfl
@[simp] theorem storeIo_cycle : (storeIo w s).cycle = { s.cycle with ioOk := true } := rfl
@[simp] theorem storeIo_valid : (storeIo w s).valid = { s.valid with io := true } := rfl
@[simp] theorem storeIo_sample : (storeIo w s).sample = decodeIo w s.sample := rfl
@[simp] theorem storeIo_faultState : (storeIo w s).faultState = s.faultState := rfl
@[simp] theorem storeIo_errorTally : (storeIo w s).errorTally = s.errorTally := rfl
@[simp] theorem storeIo_notifyCount : (storeIo w s).notifyCount = s.notifyCount := rfl
@[simp] theorem storeIo_notifyCode : (storeIo w s).notifyCode = s.notifyCode := rfl
@[simp] theorem storeIo_pollIntervalUs : (storeIo w s).pollIntervalUs = s.pollIntervalUs := rfl
@[simp] theorem storeIo_link : (storeIo w s).link = s.link := rfl
@[simp] theorem storeIo_seq : (storeIo w s).seq = s.seq := rfl
@[simp] theorem storeIo_notifyTrace : (storeIo w s).notifyTrace = s.notifyTrace := rfl
@[simp] theorem storeIo_env : (storeIo w s).env = s.env := rfl
@[simp] theorem storeIo_busy : (storeIo w s).busy = s.busy := rfl
@[simp] theorem storeIo_connected : (storeIo w s).connected = s.connected := rfl
end

end Sys2Proof.Machine
end

