-- ==== Sys2Proof/Laws/Line.lean ====
section
/-! SUPPORT. For each operation of the line and of the platform that chooses, what it can do. -/

namespace Sys2Proof.Machine

/-! The line (40 R170, R180). -/

@[simp] theorem charBits_length (b : Byte) : (charBits b).length = 11 := rfl

@[simp] theorem lineBits_length (bs : List Byte) : (lineBits bs).length = 11 * bs.length := by
  induction bs with
  | nil => rfl
  | cons b bs ih =>
    rw [lineBits, List.flatMap_cons, List.length_append, charBits_length, ← lineBits, ih, List.length_cons]
    omega

/-- The line is idle outside the burst (40 R170). -/
theorem lineLevel_idle {start : Nat} {bs : List Byte} {t : Nat} (h : t < start ∨ start + 11 * bs.length ≤ t) :
    lineLevel start bs t = idleLevel := by
  unfold lineLevel
  split
  · rfl
  · exact List.getD_eq_default _ _ (by rw [lineBits_length]; omega)

/-- Inside the burst the line carries its bits (40 R170, R177). -/
theorem lineLevel_burst (start : Nat) (bs : List Byte) (i : Nat) :
    lineLevel start bs (start + i) = (lineBits bs).getD i idleLevel := by
  simp [lineLevel]

theorem firstFrame_skip {d : RxChar} (cs : List RxChar) (h : d.gap ≠ .silence) :
    firstFrame (d :: cs) = firstFrame cs := by
  simp [firstFrame, h]

theorem firstFrame_start {c : RxChar} (cs : List RxChar) (h : c.gap = .silence) :
    firstFrame (c :: cs) = c :: cs.takeWhile fun d => d.gap != .silence := by
  simp [firstFrame, h]

/-! The platform (60 R395, 00 R9). -/

/-- There are N_TARGETS instances, at least one. -/
theorem platformReset_nTargets (first : Params) (others : List Params) :
    nTargets (platformReset first others) = others.length + 1 := by
  simp [nTargets, platformReset]

theorem platformReset_getElem? (first : Params) (others : List Params) (i : Nat) :
    (platformReset first others)[i]? =
      (first :: others)[i]?.map fun p => State.resetWith { p with targetNo := i } Env.quiet := by
  rw [platformReset, List.getElem?_mapIdx]

theorem conflict_self (p : List State) (k : Nat) : conflict p k k = true := by simp [conflict]

/-- No turn of a round conflicts with a turn chosen before it, nor with another turn of the round: on one line at most one
instance makes a transaction (20 R114). -/
theorem admitted_pairwise (p : List State) (chosen ks : List Nat) :
    (∀ k ∈ admitted p chosen ks, ∀ j ∈ chosen, conflict p j k = false) ∧
      (admitted p chosen ks).Pairwise fun j k => conflict p j k = false := by
  induction ks generalizing chosen with
  | nil => exact ⟨fun _ h => absurd h List.not_mem_nil, List.Pairwise.nil⟩
  | cons k ks ih =>
    rw [admitted]
    split
    · exact ih chosen
    · next hk =>
      obtain ⟨h1, h2⟩ := ih (k :: chosen)
      refine ⟨fun x hx j hj => ?_, List.Pairwise.cons (fun x hx => h1 x hx k List.mem_cons_self) h2⟩
      rcases List.mem_cons.mp hx with rfl | hx
      · simpa using fun e => hk (List.any_eq_true.mpr ⟨j, hj, e⟩)
      · exact h1 x hx j (List.mem_cons_of_mem _ hj)

/-- Only turns that were asked for take place. -/
theorem admitted_subset (p : List State) (chosen ks : List Nat) : admitted p chosen ks ⊆ ks := by
  induction ks generalizing chosen with
  | nil => exact List.Subset.refl _
  | cons k ks ih =>
    rw [admitted]
    split
    · exact List.subset_cons_of_subset _ (ih chosen)
    · exact List.cons_subset_cons _ (ih _)

/-- The first instance of a round never waits. -/
theorem admitted_head (p : List State) (k : Nat) (ks : List Nat) :
    admitted p [] (k :: ks) = k :: admitted p [k] ks := rfl

/-- A round of one instance is its step, so every order of whole steps is a schedule of rounds (20 R114). -/
theorem platformRound_one (k : Nat) (p : List State) : platformRound [k] p = platformStep k p := by
  rw [platformRound, admitted_head, admitted, platformRun]
  cases platformStep k p <;> rfl

/-- A schedule that names every instance first again and again is fair. -/
theorem fairRounds_of_head {rounds : Nat → List Nat} {p : List State}
    (h : ∀ k, k < nTargets p → ∀ n, ∃ m, n ≤ m ∧ (rounds m).head? = some k) : FairRounds rounds p := by
  intro k hk n
  obtain ⟨m, hm, hh⟩ := h k hk n
  refine ⟨m, hm, fun q _ => ?_⟩
  obtain ⟨ks, e⟩ := List.head?_eq_some_iff.mp hh
  rw [e, admitted_head]
  exact List.mem_cons_self

/-- The sequential multiplexing is fair, so every platform has a fair schedule. -/
theorem roundRobin_fair (p : List State) : FairRounds (roundRobin (nTargets p)) p := by
  refine fairRounds_of_head fun k hk n => ⟨n * nTargets p + k, ?_, ?_⟩
  · exact Nat.le_trans (Nat.le_mul_of_pos_right n (by omega)) (Nat.le_add_right _ _)
  · rw [roundRobin, List.head?_cons, Nat.mul_add_mod_self_right, Nat.mod_eq_of_lt hk]

end Sys2Proof.Machine
end

