-- ==== Sys2Proof/Laws/Ops.lean ====
section
/-! SUPPORT. For each shared operation that chooses, one lemma that says once everything it can do; later proofs cite
these lemmas and do not unfold the operation. -/

namespace Sys2Proof.Machine

/-! The sequencer and the link as the views BUSY and CONNECTED. -/

theorem busy_eq_true_iff (s : State) : s.busy = true ↔ s.seq.phase ≠ .idle := by simp [State.busy]

theorem busy_eq_false_iff (s : State) : s.busy = false ↔ s.seq.phase = .idle := by simp [State.busy]

theorem connected_eq_true_iff (s : State) : s.connected = true ↔ s.link = .connected := by simp [State.connected]

theorem connected_eq_false_iff (s : State) : s.connected = false ↔ s.link = .disconnected := by
  unfold State.connected
  cases s.link <;> decide

/-! Counters (00 R13). -/

theorem satInc32_toNat (x : Word32) : (satInc32 x).toNat = min (x.toNat + 1) (2 ^ 32 - 1) := by
  by_cases h : x = 0xFFFFFFFF#32
  · subst h; rfl
  · rw [satInc32, if_neg h]
    have hx : x.toNat ≠ 2 ^ 32 - 1 := fun e => h (BitVec.eq_of_toNat_eq e)
    have := x.isLt
    rw [BitVec.toNat_add, show (1 : Word32).toNat = 1 from rfl]
    omega

theorem le_satInc32 (x : Word32) : x.toNat ≤ (satInc32 x).toNat := by
  rw [satInc32_toNat]
  have := x.isLt
  omega

/-! RES keeps its length: the canonical form of the one indexed storage (10 R38). -/

theorem storeRes_length {s : State} {ws : List Word} (h : ws.length ≤ s.res.length) :
    (storeRes ws s).res.length = s.res.length := by
  simp [Nat.add_sub_cancel' h]

theorem storeRes_getD_lt {s : State} {ws : List Word} {i : Nat} (h : i < ws.length) :
    resWord (storeRes ws s) i = ws.getD i 0 := by
  simp [resWord, wordAt, List.getD, List.getElem?_append_left h]

theorem storeRes_getD_ge {s : State} {ws : List Word} {i : Nat} (h : ws.length ≤ i) :
    resWord (storeRes ws s) i = resWord s i := by
  simp [resWord, wordAt, List.getD, List.getElem?_append_right h, Nat.add_sub_cancel' h]

/-! The framer (40). -/

@[simp] theorem responseWords_length (bs : List Byte) (n : Nat) : (responseWords bs n).length = n := by
  simp [responseWords]

@[simp] theorem byteAt_zero (b : Byte) (bs : List Byte) : byteAt (b :: bs) 0 = b := rfl

@[simp] theorem byteAt_succ (b : Byte) (bs : List Byte) (i : Nat) : byteAt (b :: bs) (i + 1) = byteAt bs i := rfl

@[simp] theorem wordOf_hi_lo (w : Word) : wordOf (hiByte w) (loByte w) = w := by
  unfold wordOf hiByte loByte
  apply BitVec.eq_of_getLsbD_eq
  intro i hi
  rw [BitVec.getLsbD_append]
  simp only [BitVec.getLsbD_extractLsb']
  split
  · next h => simp [h]
  · have h1 : i - 8 < 8 := by omega
    have h2 : 8 + (i - 8) = i := by omega
    simp [h1, h2]

@[simp] theorem requestFrame_fc (p : CrcProfile) (sl fc : Byte) (a b : Word) :
    byteAt (requestFrame p sl fc a b) 1 = fc := rfl

@[simp] theorem requestFrame_slave (p : CrcProfile) (sl fc : Byte) (a b : Word) :
    byteAt (requestFrame p sl fc a b) 0 = sl := rfl

@[simp] theorem requestFrame_length (p : CrcProfile) (sl fc : Byte) (a b : Word) :
    (requestFrame p sl fc a b).length = 8 := rfl

@[simp] theorem requestFrame_count (p : CrcProfile) (sl fc : Byte) (a b : Word) :
    requestCount (requestFrame p sl fc a b) = b.toNat := by
  show (wordOf (hiByte b) (loByte b)).toNat = b.toNat
  rw [wordOf_hi_lo]

/-- A verdict `OK` on a read carries exactly the requested number of words (20 R107). -/
theorem validateBytes_ok_length {p : CrcProfile} {req bs : List Byte} {ws : List Word}
    (hfc : byteAt req 1 = fcRead) (h : validateBytes p req bs = .ok ws) : ws.length = requestCount req := by
  unfold validateBytes at h
  simp only [hfc] at h
  repeat' split at h
  all_goals first
    | contradiction
    | (cases h; simp)

theorem validate_ok_length {p : CrcProfile} {req : List Byte} {o : RxOutcome} {ws : List Word}
    (hfc : byteAt req 1 = fcRead) (h : validate p req o = .ok ws) : ws.length = requestCount req := by
  cases o with
  | timeout => cases h
  | frame b bs e =>
    simp only [validate] at h
    split at h
    · cases h
    · exact validateBytes_ok_length hfc h

/-- The words of a read that makes a transaction are all of them or none (20 R107, 40 R185). -/
theorem nextVerdict_words_length (s : State) (addr : Word) (n : Nat) (hn : n < 2 ^ 16) :
    (nextVerdict s (readRequest s addr n)).words.length = n ∨
      (nextVerdict s (readRequest s addr n)).words = [] := by
  cases h : nextVerdict s (readRequest s addr n) with
  | ok ws =>
    left
    have := validate_ok_length (p := s.params.crcProfile) (req := readRequest s addr n) rfl h
    rw [Verdict.words, this, readRequest, build, requestFrame_count, BitVec.toNat_ofNat, Nat.mod_eq_of_lt hn]
  | slaveException e => right; rfl
  | failed c => right; rfl

theorem readRegisters_cases (s : State) (addr : Word) (n : Nat) :
    readRegisters s addr n = transact s (readRequest s addr n) ∨ readRegisters s addr n = s := by
  unfold readRegisters
  split
  · exact .inl rfl
  · exact .inr rfl

/-! The Alarm State Machine (44 R332). -/

theorem alarmStep_cases (a : Bool) (c : Word) (s : State) :
    ((a = false ∨ c = 0) ∧ alarmStep a c s = s.setFaultState .clear) ∨
    (a = true ∧ c ≠ 0 ∧ c ≠ latchedCode s.faultState ∧ alarmStep a c s = notify c (s.setFaultState (.faulted c))) ∨
    (a = true ∧ c ≠ 0 ∧ c = latchedCode s.faultState ∧ alarmStep a c s = s) := by
  cases a with
  | false => exact .inl ⟨.inl rfl, rfl⟩
  | true =>
    by_cases hc : c = 0
    · exact .inl ⟨.inr hc, by simp [alarmStep, alarmSet, hc]⟩
    · by_cases hx : c = latchedCode s.faultState
      · refine .inr (.inr ⟨rfl, hc, hx, ?_⟩)
        rw [alarmStep, if_pos rfl, alarmSet, if_neg hc, if_neg (by simpa using hx)]
      · refine .inr (.inl ⟨rfl, hc, hx, ?_⟩)
        rw [alarmStep, if_pos rfl, alarmSet, if_neg hc, if_pos hx]

/-! The Polling Engine (43). -/

theorem evaluateAlarm_cases (s : State) :
    (alarmBit s.sample = true ∧
      evaluateAlarm s = goto .err (s.setCycle { s.cycle with alarmEval := true, errTried := true })) ∨
    (alarmBit s.sample = false ∧ evaluateAlarm s = goto .alarm (s.setCycle { s.cycle with alarmEval := true })) := by
  unfold evaluateAlarm
  cases h : alarmBit s.sample
  · exact .inr ⟨rfl, by simp⟩
  · exact .inl ⟨rfl, by simp⟩

theorem failAttempt_cases (b : Blk) (k : Nat) (s : State) :
    (k < retryCeiling ∧ failAttempt b k s = (countFailure s).setSeq { (countFailure s).seq with att := k }) ∨
    (retryCeiling ≤ k ∧ failAttempt b k s = goto (afterExhausted b) (countFailure s)) := by
  unfold failAttempt
  by_cases h : k < retryCeiling
  · exact .inl ⟨h, if_pos h⟩
  · exact .inr ⟨Nat.le_of_not_lt h, if_neg h⟩

/-- The state in which an attempt reads its block: the attempt is counted in CYCLE_RESULT (43 R295). -/
theorem attemptBlock_cases (b : Blk) (s : State) :
    let t := s.setCycle (setAttempts b (s.seq.att + 1) s.cycle)
    ((readWords t (blockAddr t.params b) (blockCount b)).length = blockCount b ∧
      attemptBlock b s = storeBlock b (readWords t (blockAddr t.params b) (blockCount b))
        (readRegisters t (blockAddr t.params b) (blockCount b))) ∨
    ((readWords t (blockAddr t.params b) (blockCount b)).length ≠ blockCount b ∧
      attemptBlock b s = failAttempt b (s.seq.att + 1) (readRegisters t (blockAddr t.params b) (blockCount b))) := by
  intro t
  by_cases h : (readWords t (blockAddr t.params b) (blockCount b)).length = blockCount b
  · exact .inl ⟨h, if_pos h⟩
  · exact .inr ⟨h, if_neg h⟩

theorem alarmClearPath_cases (s : State) :
    (s.params.clearCodeOnAlarmClear = true ∧ alarmClearPath s =
      ((s.setFaultState .clear).setSample { s.sample with errorCode := 0 }).setValid { s.valid with err := true }) ∨
    (s.params.clearCodeOnAlarmClear = false ∧ alarmClearPath s = s.setFaultState .clear) := by
  cases h : s.params.clearCodeOnAlarmClear
  · exact .inr ⟨rfl, by simp [alarmClearPath, alarmStep, alarmCleared, h]⟩
  · exact .inl ⟨rfl, by simp [alarmClearPath, alarmStep, alarmCleared, h]⟩

/-- Everything one step of a poll cycle can do (43 R305). -/
theorem pollStep_cases (s : State) :
    (atCycleStart s = true ∧ s.connected = false ∧ pollStep s = complete .notConnected s) ∨
    ((atCycleStart s = false ∨ s.connected = true) ∧
      ((s.seq.blk = .alarm ∧ pollStep s = goto .finish (alarmClearPath s)) ∨
       (s.seq.blk = .finish ∧ pollStep s = complete .ok s) ∨
       (s.seq.blk ≠ .alarm ∧ s.seq.blk ≠ .finish ∧ pollStep s = attemptBlock s.seq.blk s))) := by
  by_cases h : (atCycleStart s && !s.connected) = true
  · refine .inl ⟨?_, ?_, by rw [pollStep, if_pos h]⟩
    · exact (Bool.and_eq_true_iff.mp h).1
    · simpa using (Bool.and_eq_true_iff.mp h).2
  · refine .inr ⟨?_, ?_⟩
    · cases hs : atCycleStart s <;> simp_all
    · rw [pollStep, if_neg h]
      cases hb : s.seq.blk <;> simp

/-! The Transport commands (41). -/

theorem connectBody_cases (g : LinkCfg) (s : State) :
    (s.connected = true ∧ connectBody g s = complete .alreadyConnected s) ∨
    (s.connected = false ∧ (g.baud = 7 ∨ g.slave = 0) ∧ connectBody g s = complete .cfgInvalid s) ∨
    (s.connected = false ∧ g.baud ≠ 7 ∧ g.slave ≠ 0 ∧
      ((nextDraw s = .ok ∧ connectBody g s = complete .ok (openLink g (s.setEnv s.env.drawn))) ∨
       (nextDraw s = .openFailed ∧ connectBody g s = complete .openFailed (s.setEnv s.env.drawn)) ∨
       (nextDraw s = .linkFailed ∧ connectBody g s = complete .linkFailed (s.setEnv s.env.drawn)))) := by
  unfold connectBody
  cases hc : s.connected
  · by_cases hg : g.baud = 7 ∨ g.slave = 0
    · exact .inr (.inl ⟨rfl, hg, by rw [if_neg (by simp), if_pos hg]⟩)
    · refine .inr (.inr ⟨rfl, fun h => hg (.inl h), fun h => hg (.inr h), ?_⟩)
      rw [if_neg (by simp), if_neg hg]
      cases hd : nextDraw s <;> simp
  · exact .inl ⟨rfl, by simp⟩

theorem readRegsBody_cases (n : BitVec 8) (a : Word) (s : State) :
    (s.connected = false ∧ readRegsBody n a s = readFailed .notConnected s) ∨
    (s.connected = true ∧ countInRange s n.toNat = false ∧ readRegsBody n a s = readFailed .countRange s) ∨
    (s.connected = true ∧ countInRange s n.toNat = true ∧
      ((∃ ws, nextVerdict s (readRequest s a n.toNat) = .ok ws ∧ ws.length = n.toNat ∧
          readRegsBody n a s = complete .ok (storeRes ws (transact s (readRequest s a n.toNat)))) ∨
       ((nextVerdict s (readRequest s a n.toNat)).isOk = false ∧
          readRegsBody n a s = readFailed .xferFailed (transact s (readRequest s a n.toNat))))) := by
  unfold readRegsBody
  cases hc : s.connected
  · exact .inl ⟨rfl, by simp⟩
  · cases hn : countInRange s n.toNat
    · exact .inr (.inl ⟨rfl, rfl, by simp⟩)
    · refine .inr (.inr ⟨rfl, rfl, ?_⟩)
      cases hv : nextVerdict s (readRequest s a n.toNat) with
      | ok ws =>
        refine .inl ⟨ws, rfl, ?_, by simp⟩
        have hw := nextVerdict_words_length s a n.toNat (by have := n.isLt; omega)
        simp only [hv, Verdict.words] at hw
        rcases hw with hw | hw
        · exact hw
        · have hl := validate_ok_length (p := s.params.crcProfile) (req := readRequest s a n.toNat) rfl hv
          rw [hl, readRequest, build, requestFrame_count, BitVec.toNat_ofNat]
          exact Nat.mod_eq_of_lt (by have := n.isLt; omega)
      | slaveException e => exact .inr ⟨rfl, by simp⟩
      | failed c => exact .inr ⟨rfl, by simp⟩

theorem writeRegBody_cases (a v : Word) (s : State) :
    (s.connected = false ∧ writeRegBody a v s = complete .notConnected s) ∨
    (s.connected = true ∧ writeSucceeds s a v = true ∧ writeRegBody a v s =
      complete .ok ((writeRegister s a v).setStatus (writeOkFlags (writeRegister s a v).status))) ∨
    (s.connected = true ∧ writeSucceeds s a v = false ∧
      writeRegBody a v s = complete .xferFailed (writeRegister s a v)) := by
  unfold writeRegBody
  cases hc : s.connected
  · exact .inl ⟨rfl, by simp⟩
  · cases hw : writeSucceeds s a v
    · exact .inr (.inr ⟨rfl, rfl, by simp⟩)
    · exact .inr (.inl ⟨rfl, rfl, by simp⟩)

theorem teardownBody_cases (s : State) :
    (s.connected = false ∧ teardownBody s = complete .ok s) ∨
    (s.connected = true ∧ teardownBody s = complete .ok (s.setLink .disconnected)) := by
  unfold teardownBody
  cases hc : s.connected
  · exact .inl ⟨rfl, by simp⟩
  · exact .inr ⟨rfl, by simp⟩

/-! The command lifecycle (60). -/

theorem accept_ok {w : CmdWord} {i : Instr} (h : decode w = .ok i) (s : State) :
    accept w s = enter i (latch w s) := by simp [accept, h]

theorem accept_error {w : CmdWord} {e : DecodeError} (h : decode w = .error e) (s : State) :
    accept w s = complete .illegalCmd (latch w s) := by simp [accept, h]

theorem enter_cases (i : Instr) (s : State) :
    (i ≠ .pollCycle ∧ enter i s = s.setSeq { s.seq with phase := phaseOf i }) ∨
    (i = .pollCycle ∧ s.connected = false ∧
      enter i s = s.setSeq { s.seq with phase := .cycle, blk := .speed, att := 0 }) ∨
    (i = .pollCycle ∧ s.connected = true ∧
      enter i s =
        (s.setSeq { s.seq with phase := .cycle, blk := .speed, att := 0 }).setCycle CycleResult.zero) := by
  by_cases hi : i = .pollCycle
  · subst hi
    cases hc : s.connected
    · exact .inr (.inl ⟨rfl, rfl, by simp [enter, isPollCycle, enterCycle, hc, phaseOf]⟩)
    · exact .inr (.inr ⟨rfl, rfl, by simp [enter, isPollCycle, enterCycle, hc, phaseOf]⟩)
  · exact .inl ⟨hi, by simp [enter, isPollCycle, hi]⟩

theorem writeReg_cases (n : Nat) (v : BitVec 64) (s : State) :
    (n = 0 ∧ s.busy = true ∧ writeReg n v s = reject s) ∨
    (n = 0 ∧ s.busy = false ∧ writeReg n v s = accept v s) ∨
    (n = 23 ∧ writeReg n v s = s.setPollIntervalUs (v.setWidth 32)) ∨
    (n ≠ 0 ∧ n ≠ 23 ∧ writeReg n v s = s) := by
  unfold writeReg
  split
  · cases hb : s.busy
    · exact .inr (.inl ⟨rfl, rfl, by simp [writeCmd, hb]⟩)
    · exact .inl ⟨rfl, rfl, by simp [writeCmd, hb]⟩
  · exact .inr (.inr (.inl ⟨rfl, rfl⟩))
  · next h0 h23 => exact .inr (.inr (.inr ⟨fun h => h0 h, fun h => h23 h, rfl⟩))

/-- What the meaning of each command is, as one function of the state. -/
def body : Instr → State → State
  | .connect b sl v => connectBody ⟨b, sl, v⟩
  | .readRegs n a => readRegsBody n a
  | .writeReg a v => writeRegBody a v
  | .pollCycle => pollStep
  | .teardown => teardownBody

/-- Every command answers a next state. -/
theorem exec_eq (i : Instr) (s : State) : exec i s = .next (body i s) := by cases i <;> rfl

theorem engineStep_cases {s t : State} (h : engineStep s = .next t) :
    (s.busy = false ∧ t = s) ∨ (s.busy = true ∧ ∃ i, decode s.seq.cur = .ok i ∧ t = body i s) := by
  unfold engineStep at h
  split at h
  · next hb =>
    split at h
    · next i hi =>
      rw [exec_eq] at h
      exact .inr ⟨hb, i, hi, by injection h with h; exact h.symm⟩
    · cases h
  · next hb => exact .inl ⟨by simpa using hb, by injection h with h; exact h.symm⟩

/-- Everything one step can do (60 R370). -/
theorem step_cases {s t : State} (h : step s = .next t) :
    (∃ u, (u = s ∨ ∃ rest, u = s.withAgenda rest) ∧ engineStep u = .next t) ∨
    (s.busy = false ∧ ∃ rest, s.env.agenda = .sync :: rest ∧ t = s.withAgenda rest) ∨
    (∃ n v rest, s.env.agenda = .write n v :: rest ∧ t = writeReg n v (s.withAgenda rest)) ∨
    (∃ rest, s.env.agenda = .reset :: rest ∧ t = resetNow (s.withAgenda rest)) := by
  unfold step at h
  split at h
  · exact .inl ⟨s, .inl rfl, h⟩
  · next rest _ => exact .inl ⟨s.withAgenda rest, .inr ⟨rest, rfl⟩, h⟩
  · next rest ha =>
    split at h
    · exact .inl ⟨s, .inl rfl, h⟩
    · next hb =>
      exact .inr (.inl ⟨by simpa using hb, rest, ha, by injection h with h; exact h.symm⟩)
  · next n v rest ha =>
    exact .inr (.inr (.inl ⟨n, v, rest, ha, by injection h with h; exact h.symm⟩))
  · next rest ha => exact .inr (.inr (.inr ⟨rest, ha, by injection h with h; exact h.symm⟩))

end Sys2Proof.Machine
end

