-- ==== Sys2Proof/Laws/PerInstr.lean ====
section
/-! SUPPORT. Statements made per instruction: every encoded word matches its row of the opcode map (30 R127). -/

namespace Sys2Proof.Laws.EncodeMatchesRow

/-- The word of a command is accepted by the command's own row (30 R127). -/
def Statement (i : Instr) : Prop := i.row.accepts (encode i) = true

/-- Where the row's mask has a 0, the word has an operand bit; everywhere else the word's bits are the row's. -/
theorem connect (baud : BitVec 3) (slave : BitVec 5) (verbose : Bool) :
    Statement (.connect baud slave verbose) := by
  simp only [Statement, OpRow.accepts, Instr.row, OpRow.connect, encode, beq_iff_eq]
  apply BitVec.eq_of_getLsbD_eq
  intro i hi
  interval_cases i <;> simp [fieldAt, bitAt]

theorem readRegs (count : BitVec 8) (addr : Word) : Statement (.readRegs count addr) := by
  simp only [Statement, OpRow.accepts, Instr.row, OpRow.readRegs, encode, beq_iff_eq]
  apply BitVec.eq_of_getLsbD_eq
  intro i hi
  interval_cases i <;> simp [fieldAt]

theorem writeReg (addr value : Word) : Statement (.writeReg addr value) := by
  simp only [Statement, OpRow.accepts, Instr.row, OpRow.writeReg, encode, beq_iff_eq]
  apply BitVec.eq_of_getLsbD_eq
  intro i hi
  interval_cases i <;> simp [fieldAt]

theorem pollCycle : Statement .pollCycle := rfl

theorem teardown : Statement .teardown := rfl

end Sys2Proof.Laws.EncodeMatchesRow
end

