-- ==== Sys2Proof/Tests/Slice0.lean ====
section
/-! SUPPORT. The model's own tests: the operand checks, command words written out from the field tables, one-step tests,
and for every statement with hypotheses a state that meets them. Expected values are the worked examples and derived
vectors of spec/95 (each named) or are written out by hand from the rule named. -/

open Sys2Proof Sys2Proof.Machine Sys2Proof.Claims

namespace Sys2Proof.Tests

/-! Small states. The addresses are the example values of 95. -/

/-- The parameters of the vectors of 95. -/
def p0 : Params := ⟨0, 0, 125, .modbus, 0x0000, 0x0010, 0x0020, 0x0030, [], true, 0⟩

/-- An idle engine after reset, with these host actions. -/
def idle (agenda : List HostAction) : State := State.resetWith p0 ⟨agenda, [], [], 0, 0, []⟩

/-- An open link to slave 1 at 19200 baud, the line scripted. -/
def opened (rx : List RxOutcome) : State :=
  { State.resetWith p0 ⟨[], rx, [], 0, 0, []⟩ with link := .connected, linkcfg := ⟨3, 1, false⟩ }

/-- A running command on an open link, with these host actions and the line scripted. -/
def running (w : CmdWord) (ph : Phase) (agenda : List HostAction) (rx : List RxOutcome) : State :=
  { opened rx with cmd := w, seq := ⟨ph, .speed, 0, w⟩, env := ⟨agenda, rx, [], 0, 0, []⟩ }

/-- A poll cycle at attempt `k + 1` of a block. -/
def polling (b : Blk) (k : Nat) (rx : List RxOutcome) : State :=
  { opened rx with cmd := 4, seq := ⟨.cycle, b, k, 4⟩ }

/-- The next state of an outcome; `d` where there is none. -/
def nextOr (d : State) : Host.Outcome State Fault Refusal → State
  | .next t => t
  | .fault _ => d
  | .refused _ => d

/-! WellFormed: each check refuses an ill-formed term. -/

theorem test_wf_refuses_baud_7 : Instr.wellFormed 125 (.connect 7 1 false) = false := by decide
theorem test_wf_refuses_slave_0 : Instr.wellFormed 125 (.connect 3 0 true) = false := by decide
theorem test_wf_refuses_count_0 : Instr.wellFormed 125 (.readRegs 0 0x10) = false := by decide
theorem test_wf_refuses_count_above_max : Instr.wellFormed 125 (.readRegs 126 0x10) = false := by decide
theorem test_wf_accepts_the_bounds : Instr.wellFormed 125 (.connect 6 31 true) = true ∧
    Instr.wellFormed 125 (.readRegs 1 0xFFFF) = true ∧ Instr.wellFormed 125 (.readRegs 125 0) = true ∧
    Instr.wellFormed 3 (.readRegs 4 0) = false := by decide

/-! Decoding: words written out bit by bit from 30 R121 to R125, most significant field first; then the illegal words of
95 L2-3. -/

theorem test_decode_connect :
    decode (0#39 ++ 1#1 ++ 0#3 ++ 31#5 ++ 0#5 ++ 6#3 ++ 1#8) = .ok (.connect 6 31 true) := by decide
theorem test_decode_read_regs :
    decode (0#32 ++ 0xA55A#16 ++ 0x7D#8 ++ 2#8) = .ok (.readRegs 125 0xA55A) := by decide
theorem test_decode_write_reg :
    decode (0#16 ++ 0xBEEF#16 ++ 0x0041#16 ++ 0#8 ++ 3#8) = .ok (.writeReg 0x0041 0xBEEF) := by decide
theorem test_decode_poll_cycle : decode (0#56 ++ 4#8) = .ok .pollCycle := by decide
theorem test_decode_teardown : decode (0#56 ++ 5#8) = .ok .teardown := by decide

theorem test_decode_table_95 :
    decode 0x0000000000000701#64 = .ok (.connect 7 0 false) ∧ decode 0x0000000000000002#64 = .ok (.readRegs 0 0) ∧
    decode 0x000000000000FF02#64 = .ok (.readRegs 255 0) ∧
    decode 0x0000FFFFFFFF0003#64 = .ok (.writeReg 0xFFFF 0xFFFF) := by decide
theorem test_decode_refuses_reserved_bits_95 :
    [0x0000000000010B01#64, 0x0000000000200301#64, 0x0000000002010301#64, 0x0000000100000102#64,
      0x0000123400400103#64, 0x0001000000000003#64, 0x0000000000000104#64, 0x8000000000000005#64].map decode =
    List.replicate 8 (.error .reservedBit) := by decide
theorem test_decode_refuses_unknown_opcodes_95 :
    [0x0000000000000000#64, 0x0000000000000006#64, 0x00000000000000FF#64].map decode =
    List.replicate 3 (.error .unknownOpcode) := by decide
theorem test_rows_do_not_overlap :
    opcodeMap.Pairwise fun r q => (r.bits &&& q.mask) ≠ q.bits ∧ (q.bits &&& r.mask) ≠ r.bits := by decide
theorem test_encode_table_95 :
    [encode (.connect 3 1 false), encode (.connect 6 31 false), encode (.readRegs 125 0),
      encode (.writeReg 0x40 0x1234), encode .pollCycle, encode .teardown] =
    [0x0000000000010301#64, 0x00000000001F0601#64, 0x0000000000007D02#64, 0x0000123400400003#64, 4, 5] := by decide

/-- The very next step after `withFetchWord` runs the word's command (20 R118). -/
theorem test_with_fetch_word_runs :
    step (State.reset.withFetchWord 64 5) = exec .teardown (State.reset.withFetchWord 64 5) ∧
    step (State.reset.withFetchWord 64 4) = exec .pollCycle (State.reset.withFetchWord 64 4) := ⟨rfl, rfl⟩

/-! One step of each command (95 L3). -/

/-- CONNECT on a closed link, the draw OK (95 P1). -/
theorem test_connect_opens :
    let t := nextOr (idle []) (exec (.connect 3 1 false) { idle [] with env := ⟨[], [], [.ok], 0, 0, []⟩ })
    readReg t 1 = 0x5 ∧ readReg t 2 = 0x103 := by decide +kernel
/-- CONNECT with BAUD = 7 on an open link (95 L2-11). -/
theorem test_connect_already_connected :
    readReg (nextOr (idle []) (exec (.connect 7 1 false) (opened []))) 1 = 0x305 := by decide +kernel
/-- READ_REGS of one register holding 13 (95 L2-5). -/
theorem test_read_regs_stores :
    let t := nextOr (idle []) (exec (.readRegs 1 0x30) (opened [.frame 0x01 [0x03, 0x02, 0x00, 0x0D, 0x79, 0x81] false]))
    readReg t 3 = 1 ∧ readReg t 32 = 0x000D ∧ readReg t 33 = 0 ∧ readReg t 1 = 0x5 ∧
      t.env.sent = [[0x01, 0x03, 0x00, 0x30, 0x00, 0x01, 0x84, 0x05]] := by decide +kernel
/-- READ_REGS answered by the exception 2 (95 P4, on an open link). -/
theorem test_read_regs_exception :
    readReg (nextOr (idle []) (exec (.readRegs 3 0x10) (opened [.frame 0x01 [0x83, 0x02, 0xC0, 0xF1] false]))) 1 =
      0x02060805 := by decide +kernel
/-- WRITE_REG echoed (95 L2-4). -/
theorem test_write_reg_echoed :
    readReg (nextOr (idle []) (exec (.writeReg 0x40 0x1234)
      (opened [.frame 0x01 [0x06, 0x00, 0x40, 0x12, 0x34, 0x85, 0x69] false]))) 1 = 0x15 := by decide +kernel
/-- WRITE_REG answered by the exception 2 (95 L2-1's frame; 60 R365). -/
theorem test_write_reg_exception :
    readReg (nextOr (idle []) (exec (.writeReg 0x40 0x1234) (opened [.frame 0x01 [0x86, 0x02, 0xC3, 0xA1] false]))) 1 =
      0x02060805 := by decide +kernel
/-- POLL_CYCLE's speed attempt stores [0xFFFF, 0x8000, 0x7FFF] (95 L2-1's frame). -/
theorem test_poll_cycle_speed :
    let t := nextOr (idle []) (exec .pollCycle (polling .speed 4
      [.frame 0x01 [0x03, 0x06, 0xFF, 0xFF, 0x80, 0x00, 0x7F, 0xFF, 0x68, 0xDE] false]))
    readReg t 6 = 0xFFFF ∧ readReg t 7 = 0x8000 ∧ readReg t 8 = 0x7FFF ∧ readReg t 4 = 0x501 ∧ readReg t 5 = 1 ∧
      t.seq.blk = .torque := by decide +kernel
/-- POLL_CYCLE's error-code attempt stores 13 and notifies (95 P1). -/
theorem test_poll_cycle_error :
    let t := nextOr (idle []) (exec .pollCycle (polling .err 0
      [.frame 0x01 [0x03, 0x02, 0x00, 0x0D, 0x79, 0x81] false]))
    readReg t 18 = 13 ∧ readReg t 19 = 0x000D0001 ∧ t.notifyTrace = [⟨13, "undervoltage"⟩] ∧ readReg t 22 = 13 := by decide +kernel
/-- TEARDOWN keeps LINKCFG (41 R240). -/
theorem test_teardown :
    let t := nextOr (idle []) (exec .teardown (opened []))
    readReg t 1 = 0x4 ∧ readReg t 2 = 0x103 := by decide +kernel

/-! Decoder and clamp vectors (95 L1-1, L1-2, L1-3, L2-10). -/

theorem test_speed_values : [0x8000#16, 0xFF9C#16, 0xFFFF#16, 0#16, 1#16, 0x7FFF#16].map speedValue =
    [-32768, -100, -1, 0, 1, 32767] := by decide +kernel
theorem test_torque_float_123_4 : torqueFloat 0x04D2 = 0x405ED9999999999A#64 := by decide +kernel
theorem test_io_decode : let d := decodeIo [0x0005, 0x0001] Sample.zero; d.din = 0x05 ∧ d.dout = 0x01 := by decide +kernel
/-- The line bits of 0x01 and 0x84 (95 L2-2). -/
theorem test_character_bits :
    charBits 0x01 = [false, true, false, false, false, false, false, false, false, true, true] ∧
    charBits 0x84 = [false, false, false, true, false, false, false, false, true, false, true] := by decide
/-- The line idles at 1 around the burst, whose first bit is a start bit 0 (40 R170). -/
theorem test_line_idles_at_1 :
    [0, 1, 2, 12, 13].map (lineLevel 2 [0x00]) = [true, true, false, true, true] := by decide
/-- Two instances on line 0 and one on line 1, each with a poll attempt to make: in one round the second instance of line 0
waits for the line (20 R114). -/
theorem test_shared_line_is_serialised :
    let other : State := { polling .torque 0 [.timeout] with params := { p0 with lineNo := 1 } }
    let p := [polling .torque 0 [.timeout], polling .torque 0 [.timeout], other, idle []]
    admitted p [] [1, 0, 2, 3, 1] = [1, 2, 3] := by decide +kernel
/-- Characters before the first silence belong to no frame, and the next silence ends it (40 R180). -/
theorem test_frame_between_silences :
    receiveChars [⟨.broken, 9, false, true⟩, ⟨.silence, 3, false, true⟩, ⟨.within, 0, false, true⟩,
      ⟨.silence, 5, false, true⟩] = .frame 3 [0] false := by decide
theorem test_reflected_polynomials_are_reversed :
    ∀ p : CrcProfile, ∀ i : Fin 16, (crcReflectedPoly p).getLsbD i = (crcPoly p).getLsbD (15 - i) := by
  intro p; cases p <;> decide

/-! What meets the hypotheses of the statements: a state and operands for each statement, and for each clause of it. -/

theorem not_ok {v : Verdict} (h : v.isOk = false) (ws : List Word) : v ≠ .ok ws := by
  rintro rfl
  cases h

/-- Every outcome of the next five transactions is a timeout. -/
theorem timeouts_fail {s : State} (h : s.env.rxScript = List.replicate 5 .timeout) {k : Nat} (hk : k < 5)
    (req : List Byte) (ws : List Word) :
    validate s.params.crcProfile req (outcomeAt s k req) ≠ .ok ws := by
  have : outcomeAt s k req = .timeout := by
    unfold outcomeAt
    rw [h, List.getElem?_replicate_of_lt hk]
  rw [this]
  exact not_ok rfl ws

/-- A good response to the speed request of `p0`, the three words 100, 98, 2 (95 L2-1). -/
def speedRx : RxOutcome := .frame 0x01 [0x03, 0x06, 0x00, 0x64, 0x00, 0x62, 0x00, 0x02, 0x70, 0xA2] false
/-- A good response to the torque request, 50, 48, 2 (95 L2-1). -/
def torqueRx : RxOutcome := .frame 0x01 [0x03, 0x06, 0x00, 0x32, 0x00, 0x30, 0x00, 0x02, 0x99, 0x7F] false
/-- A good response to the IO request, 1, 2: the alarm bit set (95 L2-1). -/
def ioRx : RxOutcome := .frame 0x01 [0x03, 0x04, 0x00, 0x01, 0x00, 0x02, 0x2A, 0x32] false
/-- A good response to the IO request, 0, 0: the alarm bit clear (95 L2-1). -/
def ioClearRx : RxOutcome := .frame 0x01 [0x03, 0x04, 0x00, 0x00, 0x00, 0x00, 0xFA, 0x33] false
/-- A good response to the error-code request, 13 (95 L2-1). -/
def errRx : RxOutcome := .frame 0x01 [0x03, 0x02, 0x00, 0x0D, 0x79, 0x81] false

/-! Encoding and the command lifecycle. -/

theorem witness_EncodeOfDecodeIsTheWord : decode 0x0000FFFFFFFF0003#64 = .ok (.writeReg 0xFFFF 0xFFFF) := by decide
theorem witness_DecodeFollowsTheOpcodeMap : decode 0x00000000011F0701#64 = .ok (.connect 7 31 true) ∧
    decode 0x00000000FFFFFF02#64 = .ok (.readRegs 255 0xFFFF) ∧ decode 3#64 = .ok (.writeReg 0 0) := by decide
theorem witness_StepRunsTheRunningCommand :
    decode 5#64 = .ok .teardown ∧ (∀ a ∈ [[], [.turn], [.sync, .turn]], (running 5 .tearing a []).busy = true ∧
      (running 5 .tearing a []).env.agenda = a) := by decide
theorem witness_HostActsBetweenEngineSteps : (∀ a ∈ [[], [HostAction.turn], [.sync, .turn]],
    (idle a).busy = false ∧ (idle a).env.agenda = a) ∧ (idle [.reset]).env.agenda = .reset :: [] ∧
    (idle [.write 23 7, .turn]).env.agenda = .write 23 7 :: [.turn] := by decide
theorem witness_AcceptanceStartsTheCommand : (idle []).busy = false ∧ decode 5#64 = .ok .teardown ∧
    (opened []).busy = false ∧ (opened []).link = .connected ∧ decode 4#64 = .ok .pollCycle := by decide
theorem witness_IllegalCommandCompletesAtAcceptance : (idle []).busy = false ∧
    decode 6#64 = .error .unknownOpcode ∧ decode 0x104#64 = .error .reservedBit := by decide
theorem witness_BusyEngineDropsCommands : (running 4 .cycle [] []).busy = true := by decide
theorem witness_RegisterNumbersReadAndWrite : ∀ n ∈ [1, 22, 24, 25, 31, 32, 156, 157], n ≠ 0 ∧ n ≠ 23 := by decide
theorem witness_PackedRegistersReadTheirFields : (idle []).faultState = .clear ∧
    ({ idle [] with faultState := .faulted 13 }).faultState = .faulted 13 := by decide
theorem witness_ParametersAreFixed : step (idle []) = .next (idle []) := rfl

/-! The invariant. -/

theorem witness_ResetMeetsTheInvariant : p0.wf = true ∧ ({ p0 with maxBlock := 3 }).wf = true := by decide

/-- A state with a running command that meets the invariant: a poll cycle at its third torque attempt. -/
theorem witness_inv_busy : (polling .torque 2 [torqueRx]).Inv ∧ (polling .torque 2 [torqueRx]).busy = true := by
  refine ⟨⟨by decide, List.length_replicate, by decide, ?_, ?_, ?_, by decide, ?_, ?_, ?_⟩, by decide⟩
  · unfold validInv; decide
  · unfold auxInv; decide
  · unfold cycleInv; decide
  · unfold linkInv; decide
  · refine ⟨by decide, by decide, fun _ => ⟨by decide, .pollCycle, by decide, by decide⟩, by decide, by decide⟩
  · refine ⟨by decide, by decide, fun n hn => absurd hn List.not_mem_nil⟩

theorem witness_EveryStepKeepsTheInvariant : (polling .torque 2 [torqueRx]).Inv ∧
    step (polling .torque 2 [torqueRx]) = .next (pollStep (polling .torque 2 [torqueRx])) :=
  ⟨witness_inv_busy.1, rfl⟩
theorem witness_NoSafeStateStops : (polling .torque 2 [torqueRx]).Inv := witness_inv_busy.1
theorem witness_EveryCommandCompletes :
    (polling .torque 2 [torqueRx]).Inv ∧ (polling .torque 2 [torqueRx]).busy = true := witness_inv_busy

/-- No action of an empty agenda is a reset. -/
theorem noReset_of_nil {s : State} (h : s.env.agenda = []) : noReset s := by
  intro rest hr
  rw [h] at hr
  cases hr

theorem witness_TallyAndValidBitsOnlyRise :
    let s := { polling .torque 4 [.timeout] with valid := ⟨true, true, true, true, false⟩ }
    step s = .next (pollStep s) ∧ noReset s ∧ s.valid.speed = true ∧ s.valid.torque = true ∧ s.valid.io = true ∧
      s.valid.err = true :=
  ⟨rfl, noReset_of_nil rfl, rfl, rfl, rfl, rfl⟩
theorem witness_OnlyPollCycleWritesTheSample :
    let s := polling .torque 0 [torqueRx]
    step s = .next (pollStep s) ∧ noReset s ∧ (pollStep s).sample ≠ s.sample :=
  ⟨rfl, noReset_of_nil rfl, by decide +kernel⟩
theorem witness_LinkConfigIsSetByConnectAlone :
    let s := { running 0x10301 .connecting [] [] with link := .disconnected, env := ⟨[], [], [.ok], 0, 0, []⟩
                                                      linkcfg := ⟨0, 0, false⟩ }
    step s = .next (connectBody ⟨3, 1, false⟩ s) ∧ noReset s ∧ (connectBody ⟨3, 1, false⟩ s).linkcfg ≠ s.linkcfg :=
  ⟨rfl, noReset_of_nil rfl, by decide +kernel⟩
theorem witness_TransactionFieldsFollowTheTransaction :
    step (polling .torque 0 [torqueRx]) = .next (pollStep (polling .torque 0 [torqueRx])) ∧
    noReset (polling .torque 0 [torqueRx]) ∧ step (idle []) = .next (idle []) ∧ noReset (idle []) :=
  ⟨rfl, noReset_of_nil rfl, rfl, noReset_of_nil rfl⟩
theorem witness_BlocksAreStoredWholeOrNotAtAll :
    (let s := polling .speed 0 [speedRx]
     step s = .next (pollStep s) ∧ noReset s ∧ (pollStep s).sample.speedCmd ≠ s.sample.speedCmd) ∧
    (let s := polling .torque 0 [torqueRx]
     step s = .next (pollStep s) ∧ noReset s ∧ (pollStep s).sample.torqueCmd ≠ s.sample.torqueCmd) ∧
    (let s := polling .io 0 [ioRx]
     step s = .next (pollStep s) ∧ noReset s ∧ (pollStep s).sample.din ≠ s.sample.din) ∧
    (let s := polling .err 0 [errRx]
     step s = .next (pollStep s) ∧ noReset s ∧ (pollStep s).sample.errorCode ≠ s.sample.errorCode) ∧
    (let s := { polling .alarm 0 [] with sample := { Sample.zero with errorCode := 13 } }
     step s = .next (pollStep s) ∧ noReset s ∧ (pollStep s).sample.errorCode ≠ s.sample.errorCode) :=
  ⟨⟨rfl, noReset_of_nil rfl, by decide +kernel⟩,
    ⟨rfl, noReset_of_nil rfl, by decide +kernel⟩,
    ⟨rfl, noReset_of_nil rfl, by decide +kernel⟩,
    ⟨rfl, noReset_of_nil rfl, by decide +kernel⟩,
    ⟨rfl, noReset_of_nil rfl, by decide +kernel⟩⟩
theorem witness_FaultStateMovesOnDecodedDataOnly :
    (let s := polling .err 0 [errRx]
     step s = .next (pollStep s) ∧ noReset s ∧ (pollStep s).faultState ≠ s.faultState) ∧
    (let s := { polling .alarm 0 [] with faultState := .faulted 13 }
     step s = .next (pollStep s) ∧ noReset s ∧ (pollStep s).faultState ≠ s.faultState) :=
  ⟨⟨rfl, noReset_of_nil rfl, by decide +kernel⟩,
    ⟨rfl, noReset_of_nil rfl, by decide +kernel⟩⟩

/-! The Transport commands. -/

theorem witness_ConnectOpensTheLinkOrSaysWhyNot :
    (opened []).link = .connected ∧ (idle []).link = .disconnected ∧ (6#3 ≠ 7#3 ∧ 1#5 ≠ 0#5) ∧
    nextDraw { idle [] with env := ⟨[], [], [.ok], 0, 0, []⟩ } = .ok ∧
    nextDraw { idle [] with env := ⟨[], [], [.openFailed], 0, 0, []⟩ } = .openFailed ∧
    nextDraw { idle [] with env := ⟨[], [], [.linkFailed], 0, 0, []⟩ } = .linkFailed := by decide
theorem witness_ConnectAdmitsEveryOutcome : (idle []).link = .disconnected ∧ 6#3 ≠ 7#3 ∧ 31#5 ≠ 0#5 := by decide

/-- The counts at the ends of each range, and a verdict `OK` and a failure for a legal count. -/
theorem witness_ReadRegsReadsOnceAndStoresWhole :
    (idle []).link = .disconnected ∧ (opened []).link = .connected ∧ (0#8).toNat < 1 ∧
    (opened []).params.maxBlock < (126#8).toNat ∧ 1 ≤ (1#8).toNat ∧ (125#8).toNat ≤ (opened []).params.maxBlock ∧
    verdict (opened [errRx]) (frame8 (opened [errRx]) 0x03 0x0030 ((1#8).setWidth 16)) = .ok [13] ∧
    (∀ ws, verdict (opened [.timeout]) (frame8 (opened [.timeout]) 0x03 0x0030 ((1#8).setWidth 16)) ≠ .ok ws) :=
  ⟨by decide, by decide, by decide, by decide, by decide, by decide, by decide +kernel, not_ok (by decide +kernel)⟩
theorem witness_ReadRegsReturnsTheSlavesRegisters :
    (opened [errRx]).link = .connected ∧ 1 ≤ (1#8).toNat ∧ (1#8).toNat ≤ (opened [errRx]).params.maxBlock ∧
    (opened [errRx]).params.maxBlock ≤ 125 ∧ [13#16].length = (1#8).toNat ∧
    (opened [errRx]).env.rxScript =
      received (readResponse (opened [errRx]).params.crcProfile ((opened [errRx]).linkcfg.slave.setWidth 8) [13]) :: [] := by
  decide +kernel
theorem witness_WriteRegWritesOnce :
    (idle []).link = .disconnected ∧
    (let s := opened [.frame 0x01 [0x06, 0x00, 0x40, 0x12, 0x34, 0x85, 0x69] false]
     s.link = .connected ∧ verdict s (frame8 s 0x06 0x0040 0x1234) = .ok []) ∧
    (let s := opened [.timeout]
     s.link = .connected ∧ verdict s (frame8 s 0x06 0x0040 0x1234) ≠ .ok []) := by decide +kernel
theorem witness_TransportCommandsKeepThePollState :
    Instr.teardown ≠ .pollCycle ∧ ∀ n a, Instr.teardown ≠ .readRegs n a := ⟨by decide, fun _ _ h => by cases h⟩

/-! The framer and the decoder. -/

theorem witness_ReadIsOkExactlyOnItsResponse :
    validate .modbus (requestFrame .modbus 1 0x03 0x0030 (BitVec.ofNat 16 1)) errRx = .ok [13] ∧ 125 ≤ 125 := by
  decide +kernel
theorem witness_WriteIsOkExactlyOnItsEcho :
    validate .modbus (requestFrame .modbus 1 0x06 0x0040 0x1234)
      (.frame 0x01 [0x06, 0x00, 0x40, 0x12, 0x34, 0x85, 0x69] false) = .ok [] := by decide +kernel

/-- A body for each clause, at the ends of its length range where it has one (95 L2-5). -/
theorem witness_FailureCausesComeInOrder :
    let req : List Byte := [0x01, 0x03, 0x00, 0x30, 0x00, 0x01, 0x84, 0x05]
    let wreq : List Byte := [0x01, 0x06, 0x00, 0x40, 0x12, 0x34, 0x85, 0x69]
    ([0x01, 0x03, 0x02] : List Byte).length < 4 ∧ 256 < (List.replicate 257 (0 : Byte)).length ∧
    (2 ≤ ([0x01, 0x03] : List Byte).length ∧ (List.replicate 254 (1 : Byte)).length ≤ 254 ∧
      [0x00, 0x00] ≠ crcBytes .modbus [0x01, 0x03]) ∧
    byteAt [0x02, 0x03] 0 ≠ byteAt req 0 ∧
    (([0x01, 0x83] : List Byte).length ≠ 3 ∧ byteAt [0x01, 0x83] 0 = byteAt req 0 ∧
      byteAt [0x01, 0x83] 1 = byteAt req 1 ||| 0x80) ∧
    (byteAt [0x01, 0x86, 0x02] 1 ≠ byteAt req 1 ||| 0x80 ∧ byteAt [0x01, 0x86, 0x02] 1 ≠ byteAt req 1) ∧
    (byteAt req 1 = 0x03 ∧ (byteAt [0x01, 0x03, 0x04, 0x00, 0x0D, 0x00, 0x00] 2).toNat ≠ 2 * requestCount req) ∧
    ((byteAt [0x01, 0x03, 0x02] 2).toNat = 2 * requestCount req ∧
      ([0x01, 0x03, 0x02] : List Byte).length ≠ 3 + 2 * requestCount req) ∧
    (byteAt wreq 1 = 0x06 ∧ withCrc .modbus [0x01, 0x06, 0x00, 0x40, 0x12, 0x35] ≠ wreq) := by decide +kernel
theorem witness_SpeedViewIsSignedAndExact : (-32768 : Int) ≤ -32768 ∧ (32767 : Int) ≤ 32767 := by decide
theorem witness_TorqueFloatIsTheNearest :
    (0#64).extractLsb' 52 11 ≠ 0x7FF#11 ∧ f64Value 0 ≠ f64Value (torqueFloat 10) := by decide +kernel

/-! The Polling Engine. -/

theorem witness_SpeedAndTorqueBlocksAreStored :
    3 ≤ p0.maxBlock ∧
    (let s := polling .speed 0 [speedRx]
     s.seq.blk = .speed ∧ s.link = .connected ∧ verdict s (blockRequest s .speed) = .ok [100, 98, 2]) ∧
    (let s := polling .torque 4 [torqueRx]
     s.seq.blk = .torque ∧ verdict s (blockRequest s .torque) = .ok [50, 48, 2]) := by decide +kernel
theorem witness_IoBlockIsStoredAndTheAlarmEvaluated :
    (let s := polling .io 0 [ioRx]
     s.seq.blk = .io ∧ 3 ≤ s.params.maxBlock ∧ verdict s (blockRequest s .io) = .ok [1, 2]) ∧
    (let s := polling .io 4 [ioClearRx]
     s.seq.blk = .io ∧ verdict s (blockRequest s .io) = .ok [0, 0]) := by decide +kernel
theorem witness_ErrorCodeIsStoredAndTheAlarmStepped :
    (let s := polling .err 0 [errRx]
     s.seq.blk = .err ∧ 3 ≤ s.params.maxBlock ∧ verdict s (blockRequest s .err) = .ok [13] ∧ s.faultState ≠ .faulted 13) ∧
    (let s := { polling .err 0 [errRx] with faultState := .faulted 13 }
     verdict s (blockRequest s .err) = .ok [13] ∧ s.faultState = .faulted 13) ∧
    (let s := polling .err 0 [received (readResponse .modbus 1 [0])]
     verdict s (blockRequest s .err) = .ok [0]) := by decide +kernel
theorem witness_FailedAttemptIsOnlyCounted : ∀ b ∈ [Blk.speed, .torque, .io, .err], ∀ k ∈ [0, 3, 4],
    let s := polling b k [.timeout]
    isDataBlock b ∧ s.seq.blk = b ∧ s.link = .connected ∧ 3 ≤ s.params.maxBlock ∧
      (∀ ws, verdict s (blockRequest s b) ≠ .ok ws) := by
  intro b hb k _
  refine ⟨?_, rfl, rfl, (by decide : 3 ≤ 125), not_ok rfl⟩
  simpa [isDataBlock] using hb
theorem witness_ExhaustedBlockLeavesTheSampleStale : ∀ b ∈ [Blk.speed, .torque, .io, .err],
    let s := polling b 0 (List.replicate 5 .timeout)
    isDataBlock b ∧ inCycle s ∧ s.seq.blk = b ∧ s.seq.att = 0 ∧ 3 ≤ s.params.maxBlock ∧
      (∀ k, k < 5 → ∀ ws, validate s.params.crcProfile (blockRequest s b) (outcomeAt s k (blockRequest s b)) ≠ .ok ws) := by
  intro b hb
  refine ⟨?_, ⟨rfl, rfl, rfl⟩, rfl, rfl, (by decide : 3 ≤ 125), fun k hk ws => timeouts_fail rfl hk _ ws⟩
  simpa [isDataBlock] using hb

/-- A response at the first attempt for every block, and one at the fifth for the speed and the error-code block (95 L1-5). -/
theorem witness_RetryStoresTheFirstGoodResponse :
    (∀ x ∈ [(Blk.speed, speedRx, [100#16, 98, 2]), (.torque, torqueRx, [50, 48, 2]), (.io, ioRx, [1, 2]),
        (.io, ioClearRx, [0, 0]), (.err, errRx, [13])],
      let s := polling x.1 0 [x.2.1]
      isDataBlock x.1 ∧ inCycle s ∧ s.seq.blk = x.1 ∧ s.seq.att = 0 ∧ 3 ≤ s.params.maxBlock ∧
        validate s.params.crcProfile (blockRequest s x.1) (outcomeAt s 0 (blockRequest s x.1)) = .ok x.2.2) ∧
    (∀ x ∈ [(Blk.speed, speedRx, [100#16, 98, 2]), (.err, errRx, [13])],
      let s := polling x.1 0 [.timeout, .timeout, .timeout, .timeout, x.2.1]
      isDataBlock x.1 ∧ inCycle s ∧ s.seq.blk = x.1 ∧ s.seq.att = 0 ∧
        (∀ j, j < 4 → ∀ ws, validate s.params.crcProfile (blockRequest s x.1)
          (outcomeAt s j (blockRequest s x.1)) ≠ .ok ws) ∧
        validate s.params.crcProfile (blockRequest s x.1) (outcomeAt s 4 (blockRequest s x.1)) = .ok x.2.2) := by
  refine ⟨by unfold isDataBlock inCycle; decide +kernel, fun x hx => ⟨?_, ⟨rfl, rfl, rfl⟩, rfl, rfl, ?_, ?_⟩⟩
  · revert x; unfold isDataBlock; decide
  · intro j hj ws
    interval_cases j <;> exact not_ok rfl ws
  · revert x; decide +kernel
theorem witness_AlarmClearResetsTheLatch :
    (polling .alarm 0 []).seq.blk = .alarm ∧ (polling .alarm 0 []).params.clearCodeOnAlarmClear = true ∧
    ({ polling .alarm 0 [] with params := { p0 with clearCodeOnAlarmClear := false } } : State).params.clearCodeOnAlarmClear =
      false := by decide
theorem witness_PollCycleCompletesOkOrNotConnected :
    (polling .finish 0 []).seq.blk = .finish ∧
    (let s := { polling .speed 0 [] with link := .disconnected }
     s.seq.blk = .speed ∧ s.seq.att = 0 ∧ s.link = .disconnected) := by decide
theorem witness_ExhaustedIoSkipsTheAlarm :
    let s := polling .io 0 (List.replicate 5 .timeout)
    inCycle s ∧ s.seq.blk = .io ∧ s.seq.att = 0 ∧ 3 ≤ s.params.maxBlock ∧
      (∀ k, k < 5 → ∀ ws, validate s.params.crcProfile (blockRequest s .io) (outcomeAt s k (blockRequest s .io)) ≠ .ok ws) :=
  ⟨⟨rfl, rfl, rfl⟩, rfl, rfl, by decide, fun _ hk ws => timeouts_fail rfl hk _ ws⟩
theorem witness_CleanCycleStoresTheSample :
    let s := polling .speed 0 [speedRx, torqueRx, ioClearRx, .timeout]
    inCycle s ∧ s.seq.blk = .speed ∧ s.seq.att = 0 ∧ s.cycle = CycleResult.zero ∧ 3 ≤ s.params.maxBlock ∧
      s.params.clearCodeOnAlarmClear = true ∧ (0#16).getLsbD 1 = false ∧
      (let answer (ws : List Word) := received (readResponse s.params.crcProfile (s.linkcfg.slave.setWidth 8) ws)
       s.env.rxScript = answer [100, 98, 2] :: answer [50, 48, 2] :: answer [0, 0] :: [.timeout]) :=
  ⟨⟨rfl, rfl, rfl⟩, rfl, rfl, rfl, by decide, rfl, rfl, by decide +kernel⟩
theorem witness_AlarmedCycleLatchesTheFault :
    let s := polling .speed 0 [speedRx, torqueRx, ioRx, errRx]
    inCycle s ∧ s.seq.blk = .speed ∧ s.seq.att = 0 ∧ s.cycle = CycleResult.zero ∧ 3 ≤ s.params.maxBlock ∧
      (2#16).getLsbD 1 = true ∧ 13#16 ≠ 0 ∧
      (let answer (ws : List Word) := received (readResponse s.params.crcProfile (s.linkcfg.slave.setWidth 8) ws)
       s.env.rxScript = answer [100, 98, 2] :: answer [50, 48, 2] :: answer [1, 2] :: answer [13] :: []) :=
  ⟨⟨rfl, rfl, rfl⟩, rfl, rfl, rfl, by decide, rfl, by decide, by decide +kernel⟩

/-! The alarm, the line, the instances. -/

theorem witness_AlarmTransitionTable : 13#16 ≠ 0 ∧ 7#16 ≠ 0 ∧ (idle []).faultState = .clear ∧
    ({ idle [] with faultState := .faulted 7 } : State).faultState = .faulted 7 := by decide
theorem witness_OneNotificationPerFaultOnset :
    step (polling .err 0 [errRx]) = .next (pollStep (polling .err 0 [errRx])) ∧ noReset (polling .err 0 [errRx]) ∧
    (13#16 ≠ 0 ∧ 7#16 ≠ 0 ∧ 7#16 ≠ 13) ∧
    ({ p0 with faultMsgs := [(9, "a"), (7, "b"), (7, "c")] } : Params).faultMsgs = [(9, "a")] ++ (7, "b") :: [(7, "c")] ∧
    (∀ e ∈ [((9 : Word), "a")], e.1 ≠ 7) ∧ (∀ e ∈ p0.faultMsgs, e.1 ≠ 7) :=
  ⟨rfl, noReset_of_nil rfl, by decide, rfl, by decide, by decide⟩
theorem witness_SentFramesAreReceived :
    (∀ d ∈ [(⟨.broken, 9, false, true⟩ : RxChar)], d.gap ≠ .silence) ∧
    (⟨.silence, 3, false, true⟩ : RxChar).gap = .silence ∧
    (∀ d ∈ [(⟨.within, 3, false, true⟩ : RxChar), ⟨.broken, 0, false, true⟩], d.gap ≠ .silence) ∧
    (∀ d, [(⟨.silence, 5, false, true⟩ : RxChar)].head? = some d → d.gap = .silence) ∧
    (∀ d, ([] : List RxChar).head? = some d → d.gap = .silence) :=
  ⟨by decide, rfl, by decide, fun _ h => by cases h; rfl, fun _ h => by cases h⟩
theorem witness_InstancesShareNothing :
    platformStep 1 [idle [], idle [.turn], idle []] = .next [idle [], idle [], idle []] ∧
    platformStep 3 [idle []] = .next [idle []] := ⟨rfl, rfl⟩

end Sys2Proof.Tests
end

section
/-! The frame of the engine's steps: which registers the commands of the Transport leave alone (41 R222, R231, R240), and
which a step of POLL_CYCLE does (43). -/

namespace Sys2Proof.Machine

/-- `t` holds the registers of the Transport as `s` does: the link, its configuration and the results of READ_REGS. -/
def SameTransport (s t : State) : Prop :=
  t.params = s.params ∧ t.linkcfg = s.linkcfg ∧ t.resLen = s.resLen ∧ t.res = s.res ∧ t.link = s.link

/-- An update of other fields is the same state to this relation, by definition: later proofs give it as `refl`. -/
theorem SameTransport.refl (s : State) : SameTransport s s := ⟨rfl, rfl, rfl, rfl, rfl⟩

theorem SameTransport.trans {s t u : State} (h : SameTransport s t) (h' : SameTransport t u) : SameTransport s u := by
  obtain ⟨hparams, hcfg, hlen, hres, hlink⟩ := h
  obtain ⟨hparams', hcfg', hlen', hres', hlink'⟩ := h'
  exact ⟨hparams'.trans hparams, hcfg'.trans hcfg, hlen'.trans hlen, hres'.trans hres, hlink'.trans hlink⟩

/-- `t` holds the registers that POLL_CYCLE alone writes as `s` does (10 R40 to R48, R58). -/
def SamePoll (s t : State) : Prop :=
  t.sample = s.sample ∧ t.valid = s.valid ∧ t.errorTally = s.errorTally ∧ t.faultState = s.faultState ∧
    t.notifyCount = s.notifyCount ∧ t.notifyCode = s.notifyCode ∧ t.notifyTrace = s.notifyTrace

theorem SamePoll.refl (s : State) : SamePoll s s := ⟨rfl, rfl, rfl, rfl, rfl, rfl, rfl⟩

/-! `read_registers` writes STATUS and the model's own fields alone (40 R185). -/

theorem readRegisters_eq (s : State) (a : Word) (n : Nat) :
    ∃ e st, readRegisters s a n = (s.setEnv e).setStatus st := by
  rcases readRegisters_cases s a n with h | h
  · exact ⟨_, _, h⟩
  · exact ⟨s.env, s.status, h⟩

section
variable (s : State) (a : Word) (n : Nat)

theorem readRegisters_sameTransport : SameTransport s (readRegisters s a n) := by
  obtain ⟨e, st, h⟩ := readRegisters_eq s a n
  exact h.symm ▸ SameTransport.refl s

@[simp] theorem readRegisters_valid : (readRegisters s a n).valid = s.valid := by
  obtain ⟨e, st, h⟩ := readRegisters_eq s a n
  rw [h]; rfl

@[simp] theorem readRegisters_errorTally : (readRegisters s a n).errorTally = s.errorTally := by
  obtain ⟨e, st, h⟩ := readRegisters_eq s a n
  rw [h]; rfl

@[simp] theorem readRegisters_link : (readRegisters s a n).link = s.link := by
  obtain ⟨e, st, h⟩ := readRegisters_eq s a n
  rw [h]; rfl

@[simp] theorem readRegisters_seq : (readRegisters s a n).seq = s.seq := by
  obtain ⟨e, st, h⟩ := readRegisters_eq s a n
  rw [h]; rfl

@[simp] theorem readRegisters_cycle : (readRegisters s a n).cycle = s.cycle := by
  obtain ⟨e, st, h⟩ := readRegisters_eq s a n
  rw [h]; rfl

end

/-! A step of POLL_CYCLE leaves the registers of the Transport alone. -/

theorem alarmStep_sameTransport (a : Bool) (c : Word) (s : State) : SameTransport s (alarmStep a c s) := by
  rcases alarmStep_cases a c s with ⟨-, h⟩ | ⟨-, -, -, h⟩ | ⟨-, -, -, h⟩ <;> rw [h] <;> exact SameTransport.refl s

theorem evaluateAlarm_sameTransport (s : State) : SameTransport s (evaluateAlarm s) := by
  rcases evaluateAlarm_cases s with ⟨-, h⟩ | ⟨-, h⟩ <;> rw [h] <;> exact SameTransport.refl s

theorem storeBlock_sameTransport (b : Blk) (w : List Word) (s : State) : SameTransport s (storeBlock b w s) := by
  cases b with
  | io => exact evaluateAlarm_sameTransport (storeIo w s)
  | err => exact alarmStep_sameTransport true (wordAt w 0) _
  | speed | torque | alarm | finish => exact SameTransport.refl s

theorem failAttempt_sameTransport (b : Blk) (k : Nat) (s : State) : SameTransport s (failAttempt b k s) := by
  rcases failAttempt_cases b k s with ⟨-, h⟩ | ⟨-, h⟩ <;> rw [h] <;> exact SameTransport.refl s

theorem attemptBlock_sameTransport (b : Blk) (s : State) : SameTransport s (attemptBlock b s) := by
  have hread := readRegisters_sameTransport (s.setCycle (setAttempts b (s.seq.att + 1) s.cycle))
    (blockAddr s.params b) (blockCount b)
  rcases attemptBlock_cases b s with ⟨-, h⟩ | ⟨-, h⟩ <;> rw [h]
  · exact SameTransport.trans hread (storeBlock_sameTransport b _ _)
  · exact SameTransport.trans hread (failAttempt_sameTransport b _ _)

theorem alarmClearPath_sameTransport (s : State) : SameTransport s (alarmClearPath s) := by
  rcases alarmClearPath_cases s with ⟨-, h⟩ | ⟨-, h⟩ <;> rw [h] <;> exact SameTransport.refl s

theorem pollStep_sameTransport (s : State) : SameTransport s (pollStep s) := by
  rcases pollStep_cases s with ⟨-, -, h⟩ | ⟨-, ⟨-, h⟩ | ⟨-, h⟩ | ⟨-, -, h⟩⟩ <;> rw [h]
  · exact SameTransport.refl s
  · exact alarmClearPath_sameTransport s
  · exact SameTransport.refl s
  · exact attemptBlock_sameTransport s.seq.blk s

@[simp] theorem alarmStep_link (a : Bool) (c : Word) (s : State) : (alarmStep a c s).link = s.link := by
  obtain ⟨-, -, -, -, hlink⟩ := alarmStep_sameTransport a c s
  exact hlink

@[simp] theorem alarmClearPath_link (s : State) : (alarmClearPath s).link = s.link := by
  obtain ⟨-, -, -, -, hlink⟩ := alarmClearPath_sameTransport s
  exact hlink

/-! Every other command, and every write of the host, leaves the poll cycle's registers alone. -/

theorem connectBody_samePoll (g : LinkCfg) (s : State) : SamePoll s (connectBody g s) := by
  rcases connectBody_cases g s with ⟨-, h⟩ | ⟨-, -, h⟩ | ⟨-, -, -, ⟨-, h⟩ | ⟨-, h⟩ | ⟨-, h⟩⟩ <;> rw [h] <;>
    exact SamePoll.refl s

theorem readRegsBody_samePoll (n : BitVec 8) (a : Word) (s : State) : SamePoll s (readRegsBody n a s) := by
  rcases readRegsBody_cases n a s with ⟨-, h⟩ | ⟨-, -, h⟩ | ⟨-, -, ⟨ws, -, -, h⟩ | ⟨-, h⟩⟩ <;> rw [h] <;>
    exact SamePoll.refl s

theorem writeRegBody_samePoll (a v : Word) (s : State) : SamePoll s (writeRegBody a v s) := by
  rcases writeRegBody_cases a v s with ⟨-, h⟩ | ⟨-, -, h⟩ | ⟨-, -, h⟩ <;> rw [h] <;> exact SamePoll.refl s

theorem teardownBody_samePoll (s : State) : SamePoll s (teardownBody s) := by
  rcases teardownBody_cases s with ⟨-, h⟩ | ⟨-, h⟩ <;> rw [h] <;> exact SamePoll.refl s

theorem body_samePoll {i : Instr} (hi : i ≠ .pollCycle) (s : State) : SamePoll s (body i s) := by
  cases i with
  | connect b sl v => exact connectBody_samePoll _ s
  | readRegs n a => exact readRegsBody_samePoll n a s
  | writeReg a v => exact writeRegBody_samePoll a v s
  | pollCycle => exact absurd rfl hi
  | teardown => exact teardownBody_samePoll s

theorem enter_samePoll (i : Instr) (s : State) : SamePoll s (enter i s) := by
  rcases enter_cases i s with ⟨-, h⟩ | ⟨-, -, h⟩ | ⟨-, -, h⟩ <;> rw [h] <;> exact SamePoll.refl s

theorem accept_samePoll (w : CmdWord) (s : State) : SamePoll s (accept w s) := by
  cases h : decode w with
  | ok i => exact accept_ok h s ▸ enter_samePoll i (latch w s)
  | error e => exact accept_error h s ▸ SamePoll.refl s

theorem writeReg_samePoll (n : Nat) (v : BitVec 64) (s : State) : SamePoll s (writeReg n v s) := by
  rcases writeReg_cases n v s with ⟨-, -, h⟩ | ⟨-, -, h⟩ | ⟨-, h⟩ | ⟨-, -, h⟩ <;> rw [h]
  · exact SamePoll.refl s
  · exact accept_samePoll v s
  · exact SamePoll.refl s
  · exact SamePoll.refl s

/-! A write of the host leaves the registers of the Transport alone too. -/

theorem enter_sameTransport (i : Instr) (s : State) : SameTransport s (enter i s) := by
  rcases enter_cases i s with ⟨-, h⟩ | ⟨-, -, h⟩ | ⟨-, -, h⟩ <;> rw [h] <;> exact SameTransport.refl s

theorem accept_sameTransport (w : CmdWord) (s : State) : SameTransport s (accept w s) := by
  cases h : decode w with
  | ok i => exact accept_ok h s ▸ enter_sameTransport i (latch w s)
  | error e => exact accept_error h s ▸ SameTransport.refl s

theorem writeReg_sameTransport (n : Nat) (v : BitVec 64) (s : State) : SameTransport s (writeReg n v s) := by
  rcases writeReg_cases n v s with ⟨-, -, h⟩ | ⟨-, -, h⟩ | ⟨-, h⟩ | ⟨-, -, h⟩ <;> rw [h]
  · exact SameTransport.refl s
  · exact accept_sameTransport v s
  · exact SameTransport.refl s
  · exact SameTransport.refl s

/-! One step that is not a reset. -/

theorem withAgenda_self (s : State) : s.withAgenda s.env.agenda = s := rfl

/-- Either the step runs the command in CUR, or none of those registers moves. -/
theorem step_cases_of_noReset {s t : State} (h : step s = .next t) (hr : Claims.noReset s) :
    (SameTransport s t ∧ SamePoll s t) ∨
    (s.busy = true ∧ ∃ i a, decode s.seq.cur = .ok i ∧ t = body i (s.withAgenda a)) := by
  rcases step_cases h with ⟨u, hu, heng⟩ | ⟨-, rest, -, rfl⟩ | ⟨n, v, rest, -, rfl⟩ | ⟨rest, ha, -⟩
  · obtain ⟨a, rfl⟩ : ∃ a, u = s.withAgenda a := hu.elim (fun hs => ⟨_, hs.trans (withAgenda_self s).symm⟩) id
    rcases engineStep_cases heng with ⟨-, rfl⟩ | ⟨hbusy, i, hi, rfl⟩
    · exact .inl ⟨SameTransport.refl s, SamePoll.refl s⟩
    · exact .inr ⟨hbusy, i, a, hi, rfl⟩
  · exact .inl ⟨SameTransport.refl s, SamePoll.refl s⟩
  · exact .inl ⟨writeReg_sameTransport n v (s.withAgenda rest), writeReg_samePoll n v (s.withAgenda rest)⟩
  · exact absurd ha (hr rest)

end Sys2Proof.Machine
end

section
/-! Every operation of the machine keeps the invariant `State.Inv`: one lemma per operation, in the order the machine
composes them, and from these the invariant of every step. -/

namespace Sys2Proof.Machine

/-! The shared operations (60). -/

/-- STATUS may take any value that leaves DONE as it is. -/
theorem setStatus_keeps_inv {s : State} {v : Status} (h : s.Inv) (hv : v.done = s.status.done) :
    (s.setStatus v).Inv :=
  { h with
    seq := by
      obtain ⟨hcur, hatt, hbusy, hlink, herr⟩ := h.seq
      exact ⟨hcur, hatt, fun hb => ⟨hv.trans (hbusy hb).1, (hbusy hb).2⟩, hlink, herr⟩ }

/-- Nothing the model records of the world outside is part of the invariant. -/
theorem setEnv_keeps_inv {s : State} (e : Env) (h : s.Inv) : (s.setEnv e).Inv := { h with }

theorem withAgenda_keeps_inv {s : State} (a : List HostAction) (h : s.Inv) : (s.withAgenda a).Inv :=
  setEnv_keeps_inv _ h

theorem complete_keeps_inv {s : State} (c : Cause) (h : s.Inv) : (complete c s).Inv :=
  { h with
    seq := by
      obtain ⟨hcur, hatt, -, -, -⟩ := h.seq
      exact ⟨hcur, hatt, by simp, by simp, by simp⟩ }

theorem transact_keeps_inv {s : State} (req : List Byte) (h : s.Inv) : (transact s req).Inv :=
  setStatus_keeps_inv (setEnv_keeps_inv _ h) rfl

theorem readRegisters_keeps_inv {s : State} (a : Word) (n : Nat) (h : s.Inv) : (readRegisters s a n).Inv := by
  rcases readRegisters_cases s a n with hr | hr <;> rw [hr]
  · exact transact_keeps_inv _ h
  · exact h

theorem resetNow_keeps_inv {s : State} (h : s.Inv) : (resetNow s).Inv where
  params := h.params
  res := List.length_replicate
  resLen := Nat.zero_le _
  valid := by simp [resetNow, validInv, Sample.zero]
  aux := by simp [resetNow, auxInv, Sample.zero]
  cycle := by simp [resetNow, cycleInv, CycleResult.zero]
  fault := by simp [resetNow]
  link := by simp [resetNow, linkInv]
  seq := by simp [resetNow, seqInv, atCycleStart, retryCeiling]
  notify := by simp [resetNow, notifyInv]

/-! Acceptance of a command word (60 R362). -/

theorem latch_keeps_inv {s : State} (w : CmdWord) (h : s.Inv) (hidle : s.busy = false) : (latch w s).Inv :=
  { h with
    seq := by
      obtain ⟨-, hatt, -, -, -⟩ := h.seq
      have hphase := (busy_eq_false_iff s).mp hidle
      exact ⟨rfl, hatt, by simp [hidle], by simp [hphase], by simp [hphase]⟩ }

theorem cycleInv_zero : cycleInv CycleResult.zero := by simp [cycleInv, CycleResult.zero]

theorem phaseOf_eq_cycle_iff (i : Instr) : phaseOf i = .cycle ↔ i = .pollCycle := by cases i <;> simp [phaseOf]

/-- The sequencer at the start of a cycle meets its part of the invariant, whatever CYCLE_RESULT is (43 R305). -/
theorem startCycle_keeps_inv {s : State} (h : s.Inv) (hdone : s.status.done = false)
    (hcur : decode s.seq.cur = .ok .pollCycle) :
    (s.setSeq { s.seq with phase := .cycle, blk := .speed, att := 0 }).Inv :=
  { h with
    seq := ⟨h.seq.1, by simp [retryCeiling], fun _ => ⟨hdone, .pollCycle, hcur, rfl⟩,
      by simp [atCycleStart], by simp⟩ }

theorem enter_keeps_inv {s : State} {i : Instr} (h : s.Inv) (hdone : s.status.done = false)
    (hcur : decode s.seq.cur = .ok i) : (enter i s).Inv := by
  rcases enter_cases i s with ⟨hi, he⟩ | ⟨rfl, -, he⟩ | ⟨rfl, -, he⟩ <;> rw [he]
  · have hphase : phaseOf i ≠ .cycle := mt (phaseOf_eq_cycle_iff i).mp hi
    exact { h with
      seq := ⟨h.seq.1, h.seq.2.1, fun _ => ⟨hdone, i, hcur, rfl⟩, by simp [hphase], by simp [hphase]⟩ }
  · exact startCycle_keeps_inv h hdone hcur
  · have hstart := startCycle_keeps_inv h hdone hcur
    exact { hstart with
      cycle := cycleInv_zero
      seq := by
        obtain ⟨hcmd, hatt, hbusy, hlink, -⟩ := hstart.seq
        exact ⟨hcmd, hatt, hbusy, hlink, by simp⟩ }

theorem accept_keeps_inv {s : State} (w : CmdWord) (h : s.Inv) (hidle : s.busy = false) : (accept w s).Inv := by
  have hlatch := latch_keeps_inv w h hidle
  cases hw : decode w with
  | ok i => rw [accept_ok hw]; exact enter_keeps_inv hlatch rfl hw
  | error e => rw [accept_error hw]; exact complete_keeps_inv _ hlatch

theorem writeReg_keeps_inv {s : State} (n : Nat) (v : BitVec 64) (h : s.Inv) : (writeReg n v s).Inv := by
  rcases writeReg_cases n v s with ⟨-, -, hw⟩ | ⟨-, hidle, hw⟩ | ⟨-, hw⟩ | ⟨-, -, hw⟩ <;> rw [hw]
  · exact setStatus_keeps_inv h rfl
  · exact accept_keeps_inv v h hidle
  · exact { h with }
  · exact h

/-! The Transport commands (41). -/

theorem readFailed_keeps_inv {s : State} (c : Cause) (h : s.Inv) : (readFailed c s).Inv :=
  complete_keeps_inv c { h with resLen := Nat.zero_le _ }

theorem storeRes_keeps_inv {s : State} {ws : List Word} (h : s.Inv) (hws : ws.length ≤ s.params.maxBlock) :
    (storeRes ws s).Inv :=
  { h with
    res := (storeRes_length (h.res ▸ hws)).trans h.res
    resLen := by
      rw [storeRes_resLen, BitVec.toNat_ofNat]
      exact (Nat.mod_le _ _).trans hws }

theorem openLink_keeps_inv {s : State} {g : LinkCfg} (h : s.Inv) (hbaud : g.baud ≠ 7) (hslave : g.slave ≠ 0) :
    (openLink g s).Inv :=
  { h with
    link := fun _ => ⟨by simpa [Instr.baudLegal] using hbaud, by simpa [Instr.slaveLegal] using hslave⟩
    seq := by
      obtain ⟨hcur, hatt, hbusy, -, herr⟩ := h.seq
      exact ⟨hcur, hatt, hbusy, by simp, herr⟩ }

/-- Only a running POLL_CYCLE needs the link open. -/
theorem closeLink_keeps_inv {s : State} (h : s.Inv) (hphase : s.seq.phase ≠ .cycle) :
    (s.setLink .disconnected).Inv :=
  { h with
    link := by simp [linkInv]
    seq := by
      obtain ⟨hcur, hatt, hbusy, -, herr⟩ := h.seq
      exact ⟨hcur, hatt, hbusy, fun hc => absurd hc hphase, herr⟩ }

theorem connectBody_keeps_inv {s : State} (g : LinkCfg) (h : s.Inv) : (connectBody g s).Inv := by
  have hdrawn := setEnv_keeps_inv s.env.drawn h
  rcases connectBody_cases g s with ⟨-, hb⟩ | ⟨-, -, hb⟩ | ⟨-, hbaud, hslave, ⟨-, hb⟩ | ⟨-, hb⟩ | ⟨-, hb⟩⟩ <;>
    rw [hb] <;> apply complete_keeps_inv
  · exact h
  · exact h
  · exact openLink_keeps_inv hdrawn hbaud hslave
  · exact hdrawn
  · exact hdrawn

theorem readRegsBody_keeps_inv {s : State} (n : BitVec 8) (a : Word) (h : s.Inv) : (readRegsBody n a s).Inv := by
  rcases readRegsBody_cases n a s with ⟨-, hb⟩ | ⟨-, -, hb⟩ | ⟨-, hn, ⟨ws, -, hlen, hb⟩ | ⟨-, hb⟩⟩ <;> rw [hb]
  · exact readFailed_keeps_inv _ h
  · exact readFailed_keeps_inv _ h
  · have hmax : n.toNat ≤ s.params.maxBlock := by simp [countInRange] at hn; exact hn.2
    exact complete_keeps_inv _ (storeRes_keeps_inv (transact_keeps_inv _ h) (hlen ▸ hmax))
  · exact readFailed_keeps_inv _ (transact_keeps_inv _ h)

theorem writeRegBody_keeps_inv {s : State} (a v : Word) (h : s.Inv) : (writeRegBody a v s).Inv := by
  have hwritten : (writeRegister s a v).Inv := transact_keeps_inv _ h
  rcases writeRegBody_cases a v s with ⟨-, hb⟩ | ⟨-, -, hb⟩ | ⟨-, -, hb⟩ <;> rw [hb] <;> apply complete_keeps_inv
  · exact h
  · exact setStatus_keeps_inv hwritten rfl
  · exact hwritten

theorem teardownBody_keeps_inv {s : State} (h : s.Inv) (hphase : s.seq.phase ≠ .cycle) : (teardownBody s).Inv := by
  rcases teardownBody_cases s with ⟨-, hb⟩ | ⟨-, hb⟩ <;> rw [hb] <;> apply complete_keeps_inv
  · exact h
  · exact closeLink_keeps_inv h hphase

/-! The Alarm State Machine (44). -/

theorem setFaultState_keeps_inv {s : State} {f : FaultState} (h : s.Inv) (hf : f ≠ .faulted 0) :
    (s.setFaultState f).Inv := { h with fault := hf }

/-- A notification of a nonzero code keeps the trace, its count and its last code in agreement (44 R340, R341). -/
theorem notify_keeps_inv {s : State} {c : Word} (h : s.Inv) (hc : c ≠ 0) : (notify c s).Inv :=
  { h with
    notify := by
      obtain ⟨hcount, -, hall⟩ := h.notify
      refine ⟨?_, ?_, ?_⟩
      · simp [notify, wrapInc32, hcount, BitVec.ofNat_add]
      · simp [notify]
      · intro n hn
        rcases List.mem_append.mp hn with hn | hn
        · exact hall n hn
        · obtain rfl := List.mem_singleton.mp hn
          exact ⟨hc, rfl⟩ }

theorem alarmStep_keeps_inv {s : State} (a : Bool) (c : Word) (h : s.Inv) : (alarmStep a c s).Inv := by
  rcases alarmStep_cases a c s with ⟨-, ha⟩ | ⟨-, hc, -, ha⟩ | ⟨-, -, -, ha⟩ <;> rw [ha]
  · exact setFaultState_keeps_inv h (by simp)
  · exact notify_keeps_inv (setFaultState_keeps_inv h (by simpa using hc)) hc
  · exact h

/-! The Polling Engine (43). -/

/-- A cycle past its start runs on an open link, so the sequencer may move while the link is open. -/
theorem moveTo_keeps_inv {s : State} {b : Blk} {k : Nat} (h : s.Inv) (hlink : s.link = .connected)
    (hk : k < retryCeiling) (hb : b = .err → s.cycle.errTried = true) :
    (s.setSeq { s.seq with blk := b, att := k }).Inv :=
  { h with
    seq := by
      obtain ⟨hcur, -, hbusy, -, -⟩ := h.seq
      exact ⟨hcur, hk, hbusy, fun _ _ => hlink, fun _ => hb⟩ }

theorem goto_keeps_inv {s : State} {b : Blk} (h : s.Inv) (hlink : s.link = .connected)
    (hb : b = .err → s.cycle.errTried = true) : (goto b s).Inv :=
  moveTo_keeps_inv h hlink (by decide) hb

/-- CYCLE_RESULT may take any value of its own invariant that withdraws no ERR_TRIED. -/
theorem setCycle_keeps_inv {s : State} {c : CycleResult} (h : s.Inv) (hc : cycleInv c)
    (htried : s.cycle.errTried = true → c.errTried = true) : (s.setCycle c).Inv :=
  { h with
    cycle := hc
    seq := by
      obtain ⟨hcur, hatt, hbusy, hlink, herr⟩ := h.seq
      exact ⟨hcur, hatt, hbusy, hlink, fun hp hb => htried (herr hp hb)⟩ }

@[simp] theorem setAttempts_errTried (b : Blk) (k : Nat) (c : CycleResult) :
    (setAttempts b k c).errTried = c.errTried := by cases b <;> rfl

theorem ofNat_three_le {k : Nat} (hk : k ≤ retryCeiling) : (BitVec.ofNat 3 k).toNat ≤ retryCeiling :=
  (Nat.mod_le _ _).trans hk

theorem setAttempts_keeps_cycleInv {c : CycleResult} (b : Blk) {k : Nat} (h : cycleInv c) (hk : k ≤ retryCeiling) :
    cycleInv (setAttempts b k c) := by
  have hk3 := ofNat_three_le hk
  obtain ⟨hspeed, htorque, hio, herr, hflags⟩ := h
  cases b with
  | speed => exact ⟨hk3, htorque, hio, herr, hflags⟩
  | torque => exact ⟨hspeed, hk3, hio, herr, hflags⟩
  | io => exact ⟨hspeed, htorque, hk3, herr, hflags⟩
  | err => exact ⟨hspeed, htorque, hio, hk3, hflags⟩
  | alarm => exact ⟨hspeed, htorque, hio, herr, hflags⟩
  | finish => exact ⟨hspeed, htorque, hio, herr, hflags⟩

theorem countFailure_keeps_inv {s : State} (h : s.Inv) : (countFailure s).Inv := { h with }

theorem afterExhausted_ne_err (b : Blk) : afterExhausted b ≠ .err := by cases b <;> simp [afterExhausted]

theorem failAttempt_keeps_inv {s : State} {b : Blk} {k : Nat} (h : s.Inv) (hlink : s.link = .connected)
    (hblk : s.seq.blk = .err → s.cycle.errTried = true) : (failAttempt b k s).Inv := by
  have hcount := countFailure_keeps_inv h
  rcases failAttempt_cases b k s with ⟨hk, hf⟩ | ⟨-, hf⟩ <;> rw [hf]
  · exact moveTo_keeps_inv hcount hlink hk hblk
  · exact goto_keeps_inv hcount hlink fun hb => absurd hb (afterExhausted_ne_err b)

theorem storeSpeed_keeps_inv {s : State} (w : List Word) (h : s.Inv) : (storeSpeed w s).Inv :=
  { h with
    valid := by
      obtain ⟨-, htorque, hio, herr⟩ := h.valid
      exact ⟨by simp, htorque, hio, herr⟩ }

theorem storeTorque_keeps_inv {s : State} (w : List Word) (h : s.Inv) : (storeTorque w s).Inv :=
  { h with
    valid := by
      obtain ⟨hspeed, -, hio, herr⟩ := h.valid
      exact ⟨hspeed, by simp, hio, herr⟩ }

/-- The IO store alone leaves IO_OK = 1 with ALARM_EVAL = 0, so the invariant returns only with the evaluation of the
alarm bit, in the same step (10 R39, log 8). -/
theorem storeIo_evaluated_keeps_inv {s : State} (w : List Word) {tried : Bool} (h : s.Inv)
    (htried : s.cycle.errTried = true → tried = true) :
    ((storeIo w s).setCycle { (storeIo w s).cycle with alarmEval := true, errTried := tried }).Inv := by
  obtain ⟨hspeedAtt, htorqueAtt, hioAtt, herrAtt, -, -, hok⟩ := h.cycle
  have hcycle : cycleInv { (storeIo w s).cycle with alarmEval := true, errTried := tried } :=
    ⟨hspeedAtt, htorqueAtt, hioAtt, herrAtt, rfl, fun _ => rfl, fun ho => htried (hok ho)⟩
  exact { setCycle_keeps_inv h hcycle htried with
    valid := by
      obtain ⟨hspeed, htorque, -, herr⟩ := h.valid
      exact ⟨hspeed, htorque, by simp, herr⟩ }

theorem evaluateAlarm_storeIo_keeps_inv {s : State} (w : List Word) (h : s.Inv) (hlink : s.link = .connected) :
    (evaluateAlarm (storeIo w s)).Inv := by
  rcases evaluateAlarm_cases (storeIo w s) with ⟨-, he⟩ | ⟨-, he⟩ <;> rw [he]
  · exact goto_keeps_inv (storeIo_evaluated_keeps_inv w h fun _ => rfl) hlink fun _ => rfl
  · exact goto_keeps_inv (storeIo_evaluated_keeps_inv w h id) hlink (by simp)

theorem storeErr_keeps_inv {s : State} (w : List Word) (h : s.Inv) (htried : s.cycle.errTried = true) :
    (storeErr w s).Inv := by
  obtain ⟨hspeedAtt, htorqueAtt, hioAtt, herrAtt, heval, hpath, -⟩ := h.cycle
  have hcycle : cycleInv { s.cycle with errOk := true } :=
    ⟨hspeedAtt, htorqueAtt, hioAtt, herrAtt, heval, hpath, fun _ => htried⟩
  refine alarmStep_keeps_inv true _ { setCycle_keeps_inv h hcycle id with valid := ?_ }
  obtain ⟨hspeed, htorque, hio, -⟩ := h.valid
  exact ⟨hspeed, htorque, hio, by simp⟩

theorem storeBlock_keeps_inv {s : State} {b : Blk} (w : List Word) (h : s.Inv) (hlink : s.link = .connected)
    (hb : b = .err → s.cycle.errTried = true) : (storeBlock b w s).Inv := by
  cases b with
  | speed => exact goto_keeps_inv (storeSpeed_keeps_inv w h) hlink (by simp)
  | torque => exact goto_keeps_inv (storeTorque_keeps_inv w h) hlink (by simp)
  | io => exact evaluateAlarm_storeIo_keeps_inv w h hlink
  | err => exact goto_keeps_inv (storeErr_keeps_inv w h (hb rfl)) ((alarmStep_link _ _ _).trans hlink) (by simp)
  | alarm => exact h
  | finish => exact h

theorem attemptBlock_keeps_inv {s : State} (h : s.Inv) (hphase : s.seq.phase = .cycle) (hlink : s.link = .connected) :
    (attemptBlock s.seq.blk s).Inv := by
  obtain ⟨-, hatt, -, -, herr⟩ := h.seq
  have hcount : (s.setCycle (setAttempts s.seq.blk (s.seq.att + 1) s.cycle)).Inv :=
    setCycle_keeps_inv h (setAttempts_keeps_cycleInv _ h.cycle hatt) (by simp)
  have hread := readRegisters_keeps_inv (blockAddr s.params s.seq.blk) (blockCount s.seq.blk) hcount
  rcases attemptBlock_cases s.seq.blk s with ⟨-, hb⟩ | ⟨-, hb⟩ <;> rw [hb]
  · exact storeBlock_keeps_inv _ hread (by simpa using hlink) (by simpa using herr hphase)
  · exact failAttempt_keeps_inv hread (by simpa using hlink) (by simpa using herr hphase)

theorem alarmClearPath_keeps_inv {s : State} (h : s.Inv) : (alarmClearPath s).Inv := by
  have hclear : (s.setFaultState .clear).Inv := setFaultState_keeps_inv h (by simp)
  rcases alarmClearPath_cases s with ⟨-, ha⟩ | ⟨-, ha⟩ <;> rw [ha]
  · exact { hclear with
      valid := by
        obtain ⟨hspeed, htorque, hio, -⟩ := h.valid
        exact ⟨hspeed, htorque, hio, by simp⟩ }
  · exact hclear

theorem pollStep_keeps_inv {s : State} (h : s.Inv) (hphase : s.seq.phase = .cycle) : (pollStep s).Inv := by
  obtain ⟨-, -, -, hopen, -⟩ := h.seq
  rcases pollStep_cases s with ⟨-, -, hp⟩ | ⟨hstart, hcases⟩
  · exact hp ▸ complete_keeps_inv _ h
  · have hlink : s.link = .connected := hstart.elim (hopen hphase) (connected_eq_true_iff s).mp
    rcases hcases with ⟨-, hp⟩ | ⟨-, hp⟩ | ⟨-, -, hp⟩ <;> rw [hp]
    · exact goto_keeps_inv (alarmClearPath_keeps_inv h) ((alarmClearPath_link s).trans hlink) (by simp)
    · exact complete_keeps_inv _ h
    · exact attemptBlock_keeps_inv h hphase hlink

/-! One step (60 R370). -/

/-- While a command runs, PHASE is the phase of the command in CUR (10 R56). -/
theorem phase_of_running {s : State} {i : Instr} (h : s.Inv) (hbusy : s.busy = true) (hi : decode s.seq.cur = .ok i) :
    s.seq.phase = phaseOf i := by
  obtain ⟨-, -, hrun, -, -⟩ := h.seq
  obtain ⟨-, j, hj, hphase⟩ := hrun hbusy
  obtain rfl : j = i := by simpa [hj] using hi
  exact hphase

theorem body_keeps_inv {s : State} {i : Instr} (h : s.Inv) (hphase : s.seq.phase = phaseOf i) : (body i s).Inv := by
  cases i with
  | connect b sl v => exact connectBody_keeps_inv _ h
  | readRegs n a => exact readRegsBody_keeps_inv n a h
  | writeReg a v => exact writeRegBody_keeps_inv a v h
  | pollCycle => exact pollStep_keeps_inv h hphase
  | teardown => exact teardownBody_keeps_inv h (by simp [hphase, phaseOf])

theorem engineStep_keeps_inv {s t : State} (h : s.Inv) (hstep : engineStep s = .next t) : t.Inv := by
  rcases engineStep_cases hstep with ⟨-, rfl⟩ | ⟨hbusy, i, hi, rfl⟩
  · exact h
  · exact body_keeps_inv h (phase_of_running h hbusy hi)

theorem step_keeps_inv {s t : State} (h : s.Inv) (hstep : step s = .next t) : t.Inv := by
  rcases step_cases hstep with ⟨u, hu, heng⟩ | ⟨-, rest, -, rfl⟩ | ⟨n, v, rest, -, rfl⟩ | ⟨rest, -, rfl⟩
  · have hinv : u.Inv := by
      rcases hu with rfl | ⟨rest, rfl⟩
      · exact h
      · exact withAgenda_keeps_inv rest h
    exact engineStep_keeps_inv hinv heng
  · exact withAgenda_keeps_inv rest h
  · exact writeReg_keeps_inv n v (withAgenda_keeps_inv rest h)
  · exact resetNow_keeps_inv (withAgenda_keeps_inv rest h)

end Sys2Proof.Machine

namespace Sys2Proof.Proofs

/-- Settles O20: a host action or the body of the running command, each of which keeps the invariant. -/
theorem everyStepKeepsTheInvariant : Obligations.EveryStepKeepsTheInvariant := by
  intro s t h hstep
  exact Machine.step_keeps_inv h hstep

end Sys2Proof.Proofs
end

section
/-! What a step does to ERROR_TALLY and VALID (43 R296 to R303, R307). -/

namespace Sys2Proof.Machine

/-- No bit of VALID is cleared, and AUX is kept. -/
def ValidRises (v w : Valid) : Prop :=
  (v.speed = true → w.speed = true) ∧ (v.torque = true → w.torque = true) ∧ (v.io = true → w.io = true) ∧
    (v.err = true → w.err = true) ∧ w.aux = v.aux

theorem ValidRises.refl (v : Valid) : ValidRises v v := ⟨id, id, id, id, rfl⟩

theorem satInc32_le (x : Word32) : (satInc32 x).toNat ≤ x.toNat + 1 := by
  rw [satInc32_toNat]
  exact Nat.min_le_left _ _

section
variable (b : Blk) (k : Nat) (a : Bool) (c : Word) (w : List Word) (s : State)

@[simp] theorem alarmStep_valid : (alarmStep a c s).valid = s.valid := by
  rcases alarmStep_cases a c s with ⟨-, h⟩ | ⟨-, -, -, h⟩ | ⟨-, -, -, h⟩ <;> rw [h] <;> rfl

@[simp] theorem alarmStep_errorTally : (alarmStep a c s).errorTally = s.errorTally := by
  rcases alarmStep_cases a c s with ⟨-, h⟩ | ⟨-, -, -, h⟩ | ⟨-, -, -, h⟩ <;> rw [h] <;> rfl

@[simp] theorem storeErr_valid : (storeErr w s).valid = { s.valid with err := true } := by simp [storeErr]

@[simp] theorem storeErr_errorTally : (storeErr w s).errorTally = s.errorTally := by simp [storeErr]

@[simp] theorem evaluateAlarm_valid : (evaluateAlarm s).valid = s.valid := by
  rcases evaluateAlarm_cases s with ⟨-, h⟩ | ⟨-, h⟩ <;> rw [h] <;> rfl

@[simp] theorem evaluateAlarm_errorTally : (evaluateAlarm s).errorTally = s.errorTally := by
  rcases evaluateAlarm_cases s with ⟨-, h⟩ | ⟨-, h⟩ <;> rw [h] <;> rfl

/-- A store sets the VALID bit of its block. -/
theorem storeBlock_validRises : ValidRises s.valid (storeBlock b w s).valid := by
  cases b <;> simp [ValidRises, storeBlock]

@[simp] theorem storeBlock_errorTally : (storeBlock b w s).errorTally = s.errorTally := by
  cases b <;> simp [storeBlock]

@[simp] theorem failAttempt_valid : (failAttempt b k s).valid = s.valid := by
  rcases failAttempt_cases b k s with ⟨-, h⟩ | ⟨-, h⟩ <;> rw [h] <;> rfl

@[simp] theorem failAttempt_errorTally : (failAttempt b k s).errorTally = satInc32 s.errorTally := by
  rcases failAttempt_cases b k s with ⟨-, h⟩ | ⟨-, h⟩ <;> rw [h] <;> rfl

theorem attemptBlock_validRises : ValidRises s.valid (attemptBlock b s).valid := by
  rcases attemptBlock_cases b s with ⟨-, h⟩ | ⟨-, h⟩ <;> rw [h]
  · convert storeBlock_validRises b _ (readRegisters _ _ _) using 1
    simp
  · simpa using ValidRises.refl s.valid

theorem attemptBlock_errorTally :
    (attemptBlock b s).errorTally = s.errorTally ∨ (attemptBlock b s).errorTally = satInc32 s.errorTally := by
  rcases attemptBlock_cases b s with ⟨-, h⟩ | ⟨-, h⟩ <;> rw [h]
  · exact .inl (by simp)
  · exact .inr (by simp)

theorem alarmClearPath_validRises : ValidRises s.valid (alarmClearPath s).valid := by
  rcases alarmClearPath_cases s with ⟨-, h⟩ | ⟨-, h⟩ <;> rw [h]
  · exact ⟨id, id, id, fun _ => rfl, rfl⟩
  · exact ValidRises.refl s.valid

@[simp] theorem alarmClearPath_errorTally : (alarmClearPath s).errorTally = s.errorTally := by
  rcases alarmClearPath_cases s with ⟨-, h⟩ | ⟨-, h⟩ <;> rw [h] <;> rfl

theorem pollStep_validRises : ValidRises s.valid (pollStep s).valid := by
  rcases pollStep_cases s with ⟨-, -, h⟩ | ⟨-, ⟨-, h⟩ | ⟨-, h⟩ | ⟨-, -, h⟩⟩ <;> rw [h]
  · exact ValidRises.refl s.valid
  · exact alarmClearPath_validRises s
  · exact ValidRises.refl s.valid
  · exact attemptBlock_validRises s.seq.blk s

theorem pollStep_errorTally :
    (pollStep s).errorTally = s.errorTally ∨ (pollStep s).errorTally = satInc32 s.errorTally := by
  rcases pollStep_cases s with ⟨-, -, h⟩ | ⟨-, ⟨-, h⟩ | ⟨-, h⟩ | ⟨-, -, h⟩⟩ <;> rw [h]
  · exact .inl rfl
  · exact .inl (alarmClearPath_errorTally s)
  · exact .inl rfl
  · exact attemptBlock_errorTally s.seq.blk s

end

/-- ERROR_TALLY is kept or counted once, and no VALID bit is cleared. -/
def Rises (s t : State) : Prop :=
  (t.errorTally = s.errorTally ∨ t.errorTally = satInc32 s.errorTally) ∧ ValidRises s.valid t.valid

theorem SamePoll.rises {s t : State} (h : SamePoll s t) : Rises s t := by
  obtain ⟨-, hvalid, htally, -⟩ := h
  exact ⟨.inl htally, hvalid ▸ ValidRises.refl s.valid⟩

theorem step_rises {s t : State} (h : step s = .next t) (hr : Claims.noReset s) : Rises s t := by
  rcases step_cases_of_noReset h hr with ⟨-, hpoll⟩ | ⟨-, i, a, -, rfl⟩
  · exact hpoll.rises
  · by_cases hi : i = .pollCycle
    · subst hi
      exact ⟨pollStep_errorTally (s.withAgenda a), pollStep_validRises (s.withAgenda a)⟩
    · exact (body_samePoll hi (s.withAgenda a)).rises

end Sys2Proof.Machine

namespace Sys2Proof.Proofs

open Sys2Proof.Machine

/-- Settles O23: only POLL_CYCLE writes them, where a store sets its block's bit and a failed attempt counts once. -/
theorem tallyAndValidBitsOnlyRise : Obligations.TallyAndValidBitsOnlyRise := by
  intro s t h hr
  obtain ⟨htally, hspeed, htorque, hio, herr, haux⟩ := step_rises h hr
  refine ⟨?_, hspeed, htorque, hio, herr, haux⟩
  rcases htally with ht | ht <;> rw [ht]
  · exact ⟨Nat.le_refl _, Nat.le_succ _⟩
  · exact ⟨le_satInc32 _, satInc32_le _⟩

end Sys2Proof.Proofs
end

section
/-! Who writes LINKCFG (10 R36, 41 R211). -/

namespace Sys2Proof.Machine

theorem readRegsBody_linkcfg (n : BitVec 8) (a : Word) (s : State) : (readRegsBody n a s).linkcfg = s.linkcfg := by
  rcases readRegsBody_cases n a s with ⟨-, h⟩ | ⟨-, -, h⟩ | ⟨-, -, ⟨ws, -, -, h⟩ | ⟨-, h⟩⟩ <;> rw [h] <;> rfl

theorem writeRegBody_linkcfg (a v : Word) (s : State) : (writeRegBody a v s).linkcfg = s.linkcfg := by
  rcases writeRegBody_cases a v s with ⟨-, h⟩ | ⟨-, -, h⟩ | ⟨-, -, h⟩ <;> rw [h] <;> rfl

theorem teardownBody_linkcfg (s : State) : (teardownBody s).linkcfg = s.linkcfg := by
  rcases teardownBody_cases s with ⟨-, h⟩ | ⟨-, h⟩ <;> rw [h] <;> rfl

theorem pollStep_linkcfg (s : State) : (pollStep s).linkcfg = s.linkcfg := by
  obtain ⟨-, hcfg, -⟩ := pollStep_sameTransport s
  exact hcfg

/-- A CONNECT that changes LINKCFG opens the closed link with its configuration. -/
theorem connectBody_opens_of_linkcfg_ne {g : LinkCfg} {s : State} (h : (connectBody g s).linkcfg ≠ s.linkcfg) :
    s.link = .disconnected ∧ (connectBody g s).link = .connected ∧ (connectBody g s).linkcfg = g := by
  rcases connectBody_cases g s with ⟨-, hb⟩ | ⟨-, -, hb⟩ | ⟨hclosed, -, -, ⟨-, hb⟩ | ⟨-, hb⟩ | ⟨-, hb⟩⟩ <;>
    rw [hb] at h ⊢
  · exact absurd rfl h
  · exact absurd rfl h
  · exact ⟨(connected_eq_false_iff s).mp hclosed, rfl, rfl⟩
  · exact absurd rfl h
  · exact absurd rfl h

theorem body_opens_of_linkcfg_ne {i : Instr} {s : State} (h : (body i s).linkcfg ≠ s.linkcfg) :
    s.link = .disconnected ∧ (body i s).link = .connected ∧
      ∃ b sl v, i = .connect b sl v ∧ (body i s).linkcfg = ⟨b, sl, v⟩ := by
  cases i with
  | connect b sl v =>
    obtain ⟨hclosed, hopen, hcfg⟩ := connectBody_opens_of_linkcfg_ne h
    exact ⟨hclosed, hopen, b, sl, v, rfl, hcfg⟩
  | readRegs n a => exact absurd (readRegsBody_linkcfg n a s) h
  | writeReg a v => exact absurd (writeRegBody_linkcfg a v s) h
  | pollCycle => exact absurd (pollStep_linkcfg s) h
  | teardown => exact absurd (teardownBody_linkcfg s) h

end Sys2Proof.Machine

namespace Sys2Proof.Proofs

open Sys2Proof.Machine

/-- Settles O25: of the commands' bodies only CONNECT's writes LINKCFG, where it opens the link. -/
theorem linkConfigIsSetByConnectAlone : Obligations.LinkConfigIsSetByConnectAlone := by
  intro s t h hr hne
  rcases step_cases_of_noReset h hr with ⟨⟨-, hcfg, -⟩, -⟩ | ⟨hbusy, i, a, hi, rfl⟩
  · exact absurd hcfg hne
  · have hbody : (body i (s.withAgenda a)).linkcfg ≠ (s.withAgenda a).linkcfg := hne
    obtain ⟨hclosed, hopen, b, sl, v, rfl, hcfg⟩ := body_opens_of_linkcfg_ne hbody
    exact ⟨hclosed, hopen, b, sl, v, hbusy, hi, hcfg⟩

end Sys2Proof.Proofs
end

section
/-! The images of the packed registers: fields placed in a word (00 R12), read back by their positions. -/

namespace Sys2Proof.Machine

theorem getLsbD_fieldAt (w lo : Nat) {n : Nat} (v : BitVec n) (i : Nat) :
    (fieldAt w lo v).getLsbD i = (decide (i < w) && decide (lo ≤ i) && v.getLsbD (i - lo)) := by
  have hle : (!decide (i < lo)) = decide (lo ≤ i) := by
    rw [← decide_not]
    exact decide_eq_decide.mpr Nat.not_lt
  rw [fieldAt, BitVec.getLsbD_shiftLeft, BitVec.getLsbD_setWidth, hle]
  by_cases hw : i < w
  · have hlo : i - lo < w := by omega
    simp [hw, hlo]
  · simp [hw]

theorem getLsbD_bitAt (w lo : Nat) (b : Bool) (i : Nat) :
    (bitAt w lo b).getLsbD i = (decide (i < w) && decide (i = lo) && b) := by
  have hplace : (lo ≤ i ∧ i - lo = 0) ↔ i = lo := by omega
  rw [bitAt, getLsbD_fieldAt, BitVec.getLsbD_ofBool, Bool.and_assoc, Bool.and_assoc, ← Bool.and_assoc (decide (lo ≤ i)),
    ← Bool.decide_and, decide_eq_decide.mpr hplace]

/-- A field read at its own place, by itself or with bits above it that no field holds. -/
theorem extractLsb'_fieldAt_same {w lo n : Nat} (v : BitVec n) (len : Nat) (h : lo + n ≤ w) :
    (fieldAt w lo v).extractLsb' lo len = v.setWidth len := by
  apply BitVec.eq_of_getLsbD_eq
  intro i hi
  rw [BitVec.getLsbD_extractLsb', getLsbD_fieldAt, BitVec.getLsbD_setWidth]
  by_cases hn : i < n
  · have hw : lo + i < w := by omega
    simp [hw]
  · simp [BitVec.getLsbD_of_ge v i (by omega)]

/-- A field is 0 at every place apart from its own. -/
theorem extractLsb'_fieldAt_apart {w lo n : Nat} (v : BitVec n) {start len : Nat}
    (h : start + len ≤ lo ∨ lo + n ≤ start) : (fieldAt w lo v).extractLsb' start len = 0 := by
  apply BitVec.eq_of_getLsbD_eq
  intro i hi
  rw [BitVec.getLsbD_extractLsb', getLsbD_fieldAt]
  rcases h with h | h
  · have hlo : ¬ lo ≤ start + i := by omega
    simp [hlo]
  · simp [BitVec.getLsbD_of_ge v (start + i - lo) (by omega)]

theorem extractLsb'_bitAt_apart {w lo : Nat} (b : Bool) {start len : Nat}
    (h : start + len ≤ lo ∨ lo + 1 ≤ start) : (bitAt w lo b).extractLsb' start len = 0 :=
  extractLsb'_fieldAt_apart _ h

theorem connected_eq_decide (s : State) : s.connected = decide (s.link = .connected) := rfl

theorem busy_eq_decide (s : State) : s.busy = decide (s.seq.phase ≠ .idle) := by
  rw [Bool.eq_iff_iff, busy_eq_true_iff, decide_eq_true_iff]

/-! STATUS (10 R35). -/

section
variable (s : State)

theorem statusImage_bits :
    (statusImage s).getLsbD 0 = s.connected ∧ (statusImage s).getLsbD 1 = s.busy ∧
    (statusImage s).getLsbD 2 = s.status.done ∧ (statusImage s).getLsbD 3 = s.status.overrun ∧
    (statusImage s).getLsbD 4 = s.status.writeOk := by
  simp only [statusImage, BitVec.getLsbD_or, getLsbD_bitAt, getLsbD_fieldAt]
  simp

theorem statusImage_fields :
    (statusImage s).extractLsb' 5 3 = 0 ∧ (statusImage s).extractLsb' 8 8 = causeCode s.status.cause ∧
    (statusImage s).extractLsb' 16 8 = xferCauseCode s.status.xferCause ∧
    (statusImage s).extractLsb' 24 8 = s.status.xferExc := by
  simp [statusImage, BitVec.extractLsb'_or, extractLsb'_fieldAt_same, extractLsb'_fieldAt_apart,
    extractLsb'_bitAt_apart]

end

/-! LINKCFG, CYCLE_RESULT, VALID and FAULT_STATE (10 R36, R39, R40, R46). -/

theorem linkcfgImage_fields (c : LinkCfg) :
    (linkcfgImage c).extractLsb' 0 3 = c.baud ∧ (linkcfgImage c).extractLsb' 3 5 = 0 ∧
    (linkcfgImage c).extractLsb' 8 5 = c.slave ∧ (linkcfgImage c).extractLsb' 13 3 = 0 ∧
    (linkcfgImage c).extractLsb' 17 47 = 0 := by
  simp [linkcfgImage, BitVec.extractLsb'_or, extractLsb'_fieldAt_same, extractLsb'_fieldAt_apart,
    extractLsb'_bitAt_apart]

theorem linkcfgImage_verbose (c : LinkCfg) : (linkcfgImage c).getLsbD 16 = c.verbose := by
  simp only [linkcfgImage, BitVec.getLsbD_or, getLsbD_bitAt, getLsbD_fieldAt]
  simp

theorem cycleImage_bits (c : CycleResult) :
    (cycleImage c).getLsbD 0 = c.speedOk ∧ (cycleImage c).getLsbD 1 = c.torqueOk ∧
    (cycleImage c).getLsbD 2 = c.ioOk ∧ (cycleImage c).getLsbD 3 = c.errTried ∧
    (cycleImage c).getLsbD 4 = c.errOk ∧ (cycleImage c).getLsbD 5 = c.alarmEval := by
  simp only [cycleImage, BitVec.getLsbD_or, getLsbD_bitAt, getLsbD_fieldAt]
  simp

theorem cycleImage_fields (c : CycleResult) :
    (cycleImage c).extractLsb' 6 2 = 0 ∧ (cycleImage c).extractLsb' 8 4 = c.speedAtt.setWidth 4 ∧
    (cycleImage c).extractLsb' 12 4 = c.torqueAtt.setWidth 4 ∧
    (cycleImage c).extractLsb' 16 4 = c.ioAtt.setWidth 4 ∧
    (cycleImage c).extractLsb' 20 44 = c.errAtt.setWidth 44 := by
  simp [cycleImage, BitVec.extractLsb'_or, extractLsb'_fieldAt_same, extractLsb'_fieldAt_apart,
    extractLsb'_bitAt_apart]

theorem validImage_bits (v : Valid) :
    (validImage v).getLsbD 0 = v.speed ∧ (validImage v).getLsbD 1 = v.torque ∧ (validImage v).getLsbD 2 = v.io ∧
    (validImage v).getLsbD 3 = v.err ∧ (validImage v).getLsbD 4 = v.aux := by
  simp only [validImage, BitVec.getLsbD_or, getLsbD_bitAt]
  simp

theorem validImage_reserved (v : Valid) : (validImage v).extractLsb' 5 59 = 0 := by
  simp [validImage, BitVec.extractLsb'_or, extractLsb'_bitAt_apart]

theorem faultImage_faulted (c : Word) :
    (faultImage (.faulted c)).getLsbD 0 = true ∧ (faultImage (.faulted c)).extractLsb' 1 15 = 0 ∧
    (faultImage (.faulted c)).extractLsb' 16 48 = c.setWidth 48 := by
  refine ⟨?_, ?_⟩
  · simp only [faultImage, BitVec.getLsbD_or, getLsbD_bitAt, getLsbD_fieldAt]
    simp
  · simp [faultImage, BitVec.extractLsb'_or, extractLsb'_fieldAt_same, extractLsb'_fieldAt_apart,
      extractLsb'_bitAt_apart]

/-! The host reads an image widened to 64 bits (10 R32): below bit 64 widening changes no bit. -/

section
variable (s : State)

theorem readReg_status : readReg s 1 = (statusImage s).setWidth 64 := rfl

theorem readReg_linkcfg : readReg s 2 = (linkcfgImage s.linkcfg).setWidth 64 := rfl

theorem readReg_cycle : readReg s 4 = (cycleImage s.cycle).setWidth 64 := rfl

theorem readReg_valid : readReg s 5 = (validImage s.valid).setWidth 64 := rfl

theorem readReg_fault : readReg s 19 = (faultImage s.faultState).setWidth 64 := rfl

end

theorem getLsbD_setWidth_64 {n i : Nat} (x : BitVec n) (h : i < 64) : (x.setWidth 64).getLsbD i = x.getLsbD i := by
  simp [h]

/-! The register numbers (10 R32, R33). -/

/-- A number after the named registers reads a word of RES, or 0 (10 R38, R33). -/
theorem readReg_of_ge (s : State) {n : Nat} (h : 25 ≤ n) :
    readReg s n = if 32 ≤ n ∧ n < 32 + s.params.maxBlock then (resWord s (n - 32)).setWidth 64 else 0 := by
  obtain ⟨k, rfl⟩ := Nat.exists_eq_add_of_le' h
  rfl

theorem readReg_res (s : State) {i : Nat} (h : i < s.params.maxBlock) :
    readReg s (32 + i) = (s.res.getD i 0).setWidth 64 := by
  rw [readReg_of_ge s (by omega), if_pos (by omega), Nat.add_sub_cancel_left]
  rfl

/-- A widened value stays below the bound of its own width. -/
theorem toNat_setWidth_64_lt {n : Nat} (x : BitVec n) : (x.setWidth 64).toNat < 2 ^ n := by
  rw [BitVec.toNat_setWidth]
  exact (Nat.mod_le _ _).trans_lt x.isLt

theorem regWidth_of_ge (maxBlock : Nat) {n : Nat} (h : 25 ≤ n) :
    Claims.regWidth maxBlock n = if 32 ≤ n ∧ n < 32 + maxBlock then 16 else 0 := by
  unfold Claims.regWidth
  repeat rw [if_neg (by omega)]
  simp only [show ¬ n ≤ 22 by omega, false_or]

theorem readReg_lt_of_le (s : State) (m : Nat) {n : Nat} (h : n ≤ 24) :
    (readReg s n).toNat < 2 ^ Claims.regWidth m n := by
  rcases Nat.eq_zero_or_pos n with rfl | hpos
  · exact s.cmd.isLt
  · interval_cases n <;> exact toNat_setWidth_64_lt _

theorem readReg_lt_regWidth (s : State) (n : Nat) :
    (readReg s n).toNat < 2 ^ Claims.regWidth s.params.maxBlock n := by
  rcases Nat.lt_or_ge 24 n with h | h
  · rw [readReg_of_ge s h, regWidth_of_ge _ h]
    split
    · exact toNat_setWidth_64_lt _
    · exact Nat.zero_lt_one
  · exact readReg_lt_of_le s _ h

theorem writeReg_of_ne (s : State) {n : Nat} (v : BitVec 64) (h0 : n ≠ 0) (h23 : n ≠ 23) : writeReg n v s = s := by
  rcases writeReg_cases n v s with ⟨h, -⟩ | ⟨h, -⟩ | ⟨h, -⟩ | ⟨-, -, hw⟩
  · exact absurd h h0
  · exact absurd h h0
  · exact absurd h h23
  · exact hw

end Sys2Proof.Machine

namespace Sys2Proof.Proofs

open Sys2Proof.Machine

/-- Settles O11: the named registers read their fields by definition, RES by its bound, and each image fits its width. -/
theorem registerNumbersReadAndWrite : Obligations.RegisterNumbersReadAndWrite := by
  refine ⟨fun s => ?_, readReg_lt_regWidth, fun s n v h0 h23 => writeReg_of_ne s v h0 h23⟩
  exact ⟨rfl, rfl, rfl, rfl, rfl, rfl, rfl, rfl, rfl, rfl, rfl, rfl, fun i h => readReg_res s h⟩

/-- Settles O12: the low 32 bits of the value, written to one field. -/
theorem pollIntervalIsWrittenByTheHost : Obligations.PollIntervalIsWrittenByTheHost := by
  intro s v
  rw [← BitVec.setWidth_eq_extractLsb' (by decide)]
  rfl

/-- Settles O14: each field of STATUS is read at its own place, where no other field has a bit. -/
theorem statusReadsItsFields : Obligations.StatusReadsItsFields := by
  refine ⟨fun s => ?_, rfl, rfl⟩
  have hbits := statusImage_bits s
  rw [connected_eq_decide, busy_eq_decide] at hbits
  obtain ⟨hconnected, hbusy, hdone, hoverrun, hwrite⟩ := hbits
  simp only [readReg_status, getLsbD_setWidth_64, BitVec.extractLsb'_setWidth_of_le, Nat.reduceLT, Nat.reduceLeDiff,
    Nat.reduceAdd]
  exact ⟨hconnected, hbusy, hdone, hoverrun, hwrite, statusImage_fields s⟩

/-- Settles O15: each field is read at its own place, and a reserved place is apart from every field. -/
theorem packedRegistersReadTheirFields : Obligations.PackedRegistersReadTheirFields := by
  intro s
  obtain ⟨hbaud, hgap, hslave, hgap', hrest⟩ := linkcfgImage_fields s.linkcfg
  obtain ⟨hspeed, htorque, hio, htried, hok, heval⟩ := cycleImage_bits s.cycle
  obtain ⟨hvSpeed, hvTorque, hvIo, hvErr, hvAux⟩ := validImage_bits s.valid
  simp only [readReg_linkcfg, readReg_cycle, readReg_valid, readReg_fault, getLsbD_setWidth_64,
    BitVec.extractLsb'_setWidth_of_le, Nat.reduceLT, Nat.reduceLeDiff, Nat.reduceAdd]
  refine ⟨⟨hbaud, hgap, hslave, hgap', linkcfgImage_verbose s.linkcfg, hrest⟩,
    ⟨hspeed, htorque, hio, htried, hok, heval, cycleImage_fields s.cycle⟩,
    ⟨hvSpeed, hvTorque, hvIo, hvErr, hvAux, validImage_reserved s.valid⟩, fun hf => ?_, fun c hf => ?_⟩
  · rw [hf]
    rfl
  · rw [hf]
    exact faultImage_faulted c

end Sys2Proof.Proofs
end

section
/-! What a step does to the sample, the registers the poll blocks are stored in (20 R107, 43 R297 to R303, R307). -/

namespace Sys2Proof.Machine

/-- The decode of each block's response (42 R261 to R275). ALARM and END store no response. -/
def decodeBlock : Blk → List Word → Sample → Sample
  | .speed => decodeSpeed
  | .torque => decodeTorque
  | .io => decodeIo
  | .err => decodeError
  | .alarm => fun _ d => d
  | .finish => fun _ d => d

section
variable (b : Blk) (k : Nat) (a : Bool) (c : Word) (w : List Word) (s : State)

@[simp] theorem readRegisters_sample (n : Nat) : (readRegisters s c n).sample = s.sample := by
  obtain ⟨e, st, h⟩ := readRegisters_eq s c n
  rw [h]; rfl

@[simp] theorem alarmStep_sample : (alarmStep a c s).sample = s.sample := by
  rcases alarmStep_cases a c s with ⟨-, h⟩ | ⟨-, -, -, h⟩ | ⟨-, -, -, h⟩ <;> rw [h] <;> rfl

@[simp] theorem evaluateAlarm_sample : (evaluateAlarm s).sample = s.sample := by
  rcases evaluateAlarm_cases s with ⟨-, h⟩ | ⟨-, h⟩ <;> rw [h] <;> rfl

@[simp] theorem failAttempt_sample : (failAttempt b k s).sample = s.sample := by
  rcases failAttempt_cases b k s with ⟨-, h⟩ | ⟨-, h⟩ <;> rw [h] <;> rfl

@[simp] theorem storeErr_sample : (storeErr w s).sample = decodeError w s.sample := by simp [storeErr]

@[simp] theorem storeBlock_sample : (storeBlock b w s).sample = decodeBlock b w s.sample := by
  cases b with
  | io => exact evaluateAlarm_sample (storeIo w s)
  | err => exact storeErr_sample w s
  | speed | torque | alarm | finish => rfl

end

/-- A read that returns words returns those of its transaction's verdict `OK` (40 R185). -/
theorem nextVerdict_of_readWords_ne_nil {s : State} {a : Word} {n : Nat} (h : readWords s a n ≠ []) :
    nextVerdict s (readRequest s a n) = .ok (readWords s a n) := by
  unfold readWords at h ⊢
  split at h
  · next hn =>
    rw [if_pos hn]
    cases hv : nextVerdict s (readRequest s a n) with
    | ok ws => rfl
    | slaveException e => exact absurd (congrArg Verdict.words hv) h
    | failed c => exact absurd (congrArg Verdict.words hv) h
  · exact absurd rfl h

theorem blockCount_pos {b : Blk} (halarm : b ≠ .alarm) (hfinish : b ≠ .finish) : 0 < blockCount b := by
  cases b with
  | alarm => exact absurd rfl halarm
  | finish => exact absurd rfl hfinish
  | speed | torque | io | err => decide

/-- What a step from `s` may leave in the sample: the sample as it was, the sample with the error code cleared on the
alarm-clear path, or the decode of a whole response to the request of the block in BLK. -/
def SampleAfter (s : State) (d : Sample) : Prop :=
  d = s.sample ∨
  (s.seq.blk = .alarm ∧ s.params.clearCodeOnAlarmClear = true ∧ d = { s.sample with errorCode := 0 }) ∨
  (∃ ws, Claims.verdict s (Claims.blockRequest s s.seq.blk) = .ok ws ∧ ws.length = blockCount s.seq.blk ∧
    d = decodeBlock s.seq.blk ws s.sample)

/-- An attempt stores a response of the block's count, and otherwise keeps the sample. The line is asked in a state that
differs from `s` in CYCLE_RESULT alone, so its verdict is the one `s` gives. -/
theorem attemptBlock_sample {b : Blk} (hb : 0 < blockCount b) (s : State) :
    (attemptBlock b s).sample = s.sample ∨
    (∃ ws, Claims.verdict s (Claims.blockRequest s b) = .ok ws ∧ ws.length = blockCount b ∧
      (attemptBlock b s).sample = decodeBlock b ws s.sample) := by
  rcases attemptBlock_cases b s with ⟨hlen, h⟩ | ⟨-, h⟩ <;> rw [h]
  · have hv := nextVerdict_of_readWords_ne_nil (List.ne_nil_of_length_pos (hb.trans_eq hlen.symm))
    exact .inr ⟨_, hv, hlen, by simp⟩
  · exact .inl (by simp)

theorem pollStep_sample (s : State) : SampleAfter s (pollStep s).sample := by
  rcases pollStep_cases s with ⟨-, -, h⟩ | ⟨-, ⟨hblk, h⟩ | ⟨-, h⟩ | ⟨halarm, hfinish, h⟩⟩ <;> rw [h]
  · exact .inl rfl
  · rcases alarmClearPath_cases s with ⟨hclear, ha⟩ | ⟨-, ha⟩ <;> rw [ha]
    · exact .inr (.inl ⟨hblk, hclear, rfl⟩)
    · exact .inl rfl
  · exact .inl rfl
  · exact (attemptBlock_sample (blockCount_pos halarm hfinish) s).imp_right .inr

theorem step_sample {s t : State} (h : step s = .next t) (hr : Claims.noReset s) : SampleAfter s t.sample := by
  rcases step_cases_of_noReset h hr with ⟨-, hsample, -⟩ | ⟨-, i, a, -, rfl⟩
  · exact .inl hsample
  · by_cases hi : i = .pollCycle
    · subst hi
      exact pollStep_sample (s.withAgenda a)
    · obtain ⟨hsample, -⟩ := body_samePoll hi (s.withAgenda a)
      exact .inl hsample

/-! Each block's registers are written by that block's decode alone, and hold all of its words then. -/

section
variable {b : Blk} {ws : List Word} {d : Sample}

theorem eq_speed_of_decodeBlock_ne (hlen : ws.length = blockCount b)
    (hne : (decodeBlock b ws d).speedCmd ≠ d.speedCmd ∨ (decodeBlock b ws d).speedFb ≠ d.speedFb ∨
      (decodeBlock b ws d).speedDev ≠ d.speedDev) :
    b = .speed ∧
      ws = [(decodeBlock b ws d).speedCmd, (decodeBlock b ws d).speedFb, (decodeBlock b ws d).speedDev] := by
  cases b with
  | speed =>
    obtain ⟨w0, w1, w2, rfl⟩ := List.length_eq_three.mp hlen
    exact ⟨rfl, rfl⟩
  | torque | io | err | alarm | finish => simp [decodeBlock, decodeTorque, decodeIo, decodeError] at hne

theorem eq_torque_of_decodeBlock_ne (hlen : ws.length = blockCount b)
    (hne : (decodeBlock b ws d).torqueCmd ≠ d.torqueCmd ∨ (decodeBlock b ws d).torqueFb ≠ d.torqueFb ∨
      (decodeBlock b ws d).torqueDev ≠ d.torqueDev) :
    b = .torque ∧
      ws = [(decodeBlock b ws d).torqueCmd, (decodeBlock b ws d).torqueFb, (decodeBlock b ws d).torqueDev] := by
  cases b with
  | torque =>
    obtain ⟨w0, w1, w2, rfl⟩ := List.length_eq_three.mp hlen
    exact ⟨rfl, rfl⟩
  | speed | io | err | alarm | finish => simp [decodeBlock, decodeSpeed, decodeIo, decodeError] at hne

theorem eq_io_of_decodeBlock_ne (hlen : ws.length = blockCount b)
    (hne : (decodeBlock b ws d).din ≠ d.din ∨ (decodeBlock b ws d).dout ≠ d.dout) :
    b = .io ∧ ∃ w0 w1, ws = [w0, w1] ∧ (decodeBlock b ws d).din = w0.extractLsb' 0 8 ∧
      (decodeBlock b ws d).dout = w1.extractLsb' 0 6 := by
  cases b with
  | io =>
    obtain ⟨w0, w1, rfl⟩ := List.length_eq_two.mp hlen
    exact ⟨rfl, w0, w1, rfl, rfl, rfl⟩
  | speed | torque | err | alarm | finish => simp [decodeBlock, decodeSpeed, decodeTorque, decodeError] at hne

theorem eq_err_of_decodeBlock_ne (hlen : ws.length = blockCount b)
    (hne : (decodeBlock b ws d).errorCode ≠ d.errorCode) : b = .err ∧ ws = [(decodeBlock b ws d).errorCode] := by
  cases b with
  | err =>
    obtain ⟨w0, rfl⟩ := List.length_eq_one_iff.mp hlen
    exact ⟨rfl, rfl⟩
  | speed | torque | io | alarm | finish => exact absurd rfl hne

end

end Sys2Proof.Machine

namespace Sys2Proof.Proofs

open Sys2Proof.Machine

/-- Settles O27: the sample is kept, or loses its error code on the alarm-clear path, or takes a whole response by the
decode of the block in BLK, which writes no other block's registers. -/
theorem blocksAreStoredWholeOrNotAtAll : Obligations.BlocksAreStoredWholeOrNotAtAll := by
  intro s t h hr
  rcases step_sample h hr with hkept | ⟨hblk, hclear, hcleared⟩ | ⟨ws, hv, hlen, hstored⟩
  · simp [hkept]
  · simp [hcleared, hblk, hclear]
  · rw [hstored]
    refine ⟨fun hne => ?_, fun hne => ?_, fun hne => ?_, fun hne => .inl ?_⟩
    · obtain ⟨hblk, hws⟩ := eq_speed_of_decodeBlock_ne hlen hne
      exact ⟨hblk, by rw [← hws, ← hblk, hv]⟩
    · obtain ⟨hblk, hws⟩ := eq_torque_of_decodeBlock_ne hlen hne
      exact ⟨hblk, by rw [← hws, ← hblk, hv]⟩
    · obtain ⟨hblk, w0, w1, hws, hdin, hdout⟩ := eq_io_of_decodeBlock_ne hlen hne
      exact ⟨hblk, w0, w1, by rw [← hws, ← hblk, hv], hdin, hdout⟩
    · obtain ⟨hblk, hws⟩ := eq_err_of_decodeBlock_ne hlen hne
      exact ⟨hblk, by rw [← hws, ← hblk, hv]⟩

end Sys2Proof.Proofs
end

section
/-! The decoder and the encoder by the rows of the opcode map (30 R120 to R128): a word that a row accepts decodes
to the row's command with the word's own fields as operands, and no other word decodes. -/

namespace Sys2Proof.Machine

/-- The command of the form of a given one, its operands the fields of a word (30 R126). -/
def withFieldsOf (w : CmdWord) : Instr → Instr
  | .connect _ _ _ => .connect (baudField w) (slaveField w) (verboseField w)
  | .readRegs _ _ => .readRegs (countField w) (addrField w)
  | .writeReg _ _ => .writeReg (addrField w) (valueField w)
  | .pollCycle => .pollCycle
  | .teardown => .teardown

theorem row_withFieldsOf (w : CmdWord) (i : Instr) : (withFieldsOf w i).row = i.row := by
  cases i <;> rfl

theorem withFieldsOf_twice (w : CmdWord) (i : Instr) : withFieldsOf w (withFieldsOf w i) = withFieldsOf w i := by
  cases i <;> rfl

theorem row_mem_opcodeMap (i : Instr) : i.row ∈ opcodeMap := by
  cases i <;> simp [opcodeMap, Instr.row]

theorem forall_mem_opcodeMap {p : OpRow → Prop} :
    (∀ r ∈ opcodeMap, p r) ↔
      p .connect ∧ p .readRegs ∧ p .writeReg ∧ p .pollCycle ∧ p .teardown := by
  simp [opcodeMap]

/-! Which row accepts a word. Every mask covers OP, and no two rows share one, so OP alone tells the row. -/

section
variable {r q : OpRow} {w : CmdWord} {i : Instr}

theorem accepts_iff : r.accepts w = true ↔ w &&& r.mask = r.bits := by
  rw [OpRow.accepts, beq_iff_eq]

theorem accepts_eq_false_iff : r.accepts w = false ↔ w &&& r.mask ≠ r.bits := by
  rw [← Bool.not_eq_true, accepts_iff]

/-- A row without operand bits (30 R125) accepts its one word alone. -/
theorem accepts_eq_false_iff_ne (hmask : r.mask = BitVec.allOnes 64) : r.accepts w = false ↔ w ≠ r.bits := by
  rw [accepts_eq_false_iff, hmask, BitVec.and_allOnes]

theorem opField_mask : ∀ r ∈ opcodeMap, opField r.mask = BitVec.allOnes 8 := by decide

theorem opField_bits_injective : ∀ r ∈ opcodeMap, ∀ q ∈ opcodeMap, opField r.bits = opField q.bits → r = q := by
  decide

theorem opField_bits_assigned : ∀ r ∈ opcodeMap, 1 ≤ (opField r.bits).toNat ∧ (opField r.bits).toNat ≤ 5 := by
  decide

theorem opField_of_accepts (hr : r ∈ opcodeMap) (h : r.accepts w = true) : opField w = opField r.bits :=
  calc opField w
    _ = opField w &&& opField r.mask := by rw [opField_mask r hr, BitVec.and_allOnes]
    _ = opField (w &&& r.mask) := BitVec.extractLsb'_and.symm
    _ = opField r.bits := by rw [accepts_iff.mp h]

theorem row_unique (hr : r ∈ opcodeMap) (hq : q ∈ opcodeMap) (h : r.accepts w = true) (h' : q.accepts w = true) :
    r = q :=
  opField_bits_injective r hr q hq ((opField_of_accepts hr h).symm.trans (opField_of_accepts hq h'))

/-- Of the rows, the one that accepts a word is the only one that does. -/
theorem accepts_eq_decide (hr : r ∈ opcodeMap) (h : r.accepts w = true) (hq : q ∈ opcodeMap) :
    q.accepts w = decide (r = q) := by
  by_cases hrq : r = q
  · rw [← hrq, h, decide_eq_true rfl]
  · rw [decide_eq_false hrq]
    exact Bool.eq_false_iff.mpr fun h' => hrq (row_unique hr hq h h')

/-- Some command's row accepts the word, or no row does. -/
theorem accepted_or_off_map (w : CmdWord) :
    (∃ i : Instr, i.row.accepts w = true) ∨ ∀ r ∈ opcodeMap, r.accepts w = false := by
  rw [or_iff_not_imp_left, not_exists, forall_mem_opcodeMap]
  intro h
  exact ⟨Bool.eq_false_iff.mpr (h (.connect 0 0 false)), Bool.eq_false_iff.mpr (h (.readRegs 0 0)),
    Bool.eq_false_iff.mpr (h (.writeReg 0 0)), Bool.eq_false_iff.mpr (h .pollCycle),
    Bool.eq_false_iff.mpr (h .teardown)⟩

end

/-! What the decoder answers (30 R126 to R128). -/

section
variable {w : CmdWord} {i : Instr}

/-- The rows do not overlap, so the order in which the decoder tries them does not matter. -/
theorem decode_of_accepts (h : i.row.accepts w = true) : decode w = .ok (withFieldsOf w i) := by
  have hrows := forall_mem_opcodeMap.mp fun q hq => accepts_eq_decide (row_mem_opcodeMap i) h hq
  obtain ⟨hconnect, hread, hwrite, hpoll, hteardown⟩ := hrows
  rw [decode, hconnect, hread, hwrite, hpoll, hteardown]
  cases i with
  | connect b sl v => rfl
  | readRegs n a => rfl
  | writeReg a v => rfl
  | pollCycle => rfl
  | teardown => rfl

/-- A word off the map is illegal, and its OP tells in which of the two ways (30 R128). -/
theorem decode_off_map (h : ∀ r ∈ opcodeMap, r.accepts w = false) :
    decode w =
      .error (if 1 ≤ (opField w).toNat ∧ (opField w).toNat ≤ 5 then .reservedBit else .unknownOpcode) := by
  obtain ⟨hconnect, hread, hwrite, hpoll, hteardown⟩ := forall_mem_opcodeMap.mp h
  simp only [decode, hconnect, hread, hwrite, hpoll, hteardown, Bool.false_eq_true, if_false, Bool.and_eq_true,
    decide_eq_true_eq]
  split <;> rfl

/-- A word decodes to a command just when the command's row accepts it and its fields are the operands. -/
theorem decode_eq_ok_iff : decode w = .ok i ↔ i.row.accepts w = true ∧ withFieldsOf w i = i := by
  constructor
  · intro h
    rcases accepted_or_off_map w with ⟨j, hj⟩ | hoff
    · obtain rfl : withFieldsOf w j = i := by simpa [decode_of_accepts hj] using h
      exact ⟨by rwa [row_withFieldsOf], withFieldsOf_twice w j⟩
    · simp [decode_off_map hoff] at h
  · rintro ⟨hrow, hfields⟩
    rw [decode_of_accepts hrow, hfields]

theorem accepts_of_decode (h : decode w = .ok i) : i.row.accepts w = true := by
  obtain ⟨hrow, -⟩ := decode_eq_ok_iff.mp h
  exact hrow

theorem withFieldsOf_of_decode (h : decode w = .ok i) : withFieldsOf w i = i := by
  obtain ⟨-, hfields⟩ := decode_eq_ok_iff.mp h
  exact hfields

theorem decode_eq_reservedBit_iff : decode w = .error .reservedBit ↔
    (1 ≤ (opField w).toNat ∧ (opField w).toNat ≤ 5) ∧ ∀ r ∈ opcodeMap, r.accepts w = false := by
  rcases accepted_or_off_map w with ⟨i, hi⟩ | hoff
  · have hnot : ¬ ∀ r ∈ opcodeMap, r.accepts w = false := fun h => by simp [h i.row (row_mem_opcodeMap i)] at hi
    simp [decode_of_accepts hi, hnot]
  · rw [decode_off_map hoff, and_iff_left hoff]
    split <;> simp [*]

/-- An unassigned OP alone makes a word illegal: every row's OP is assigned. -/
theorem decode_eq_unknownOpcode_iff :
    decode w = .error .unknownOpcode ↔ ¬ (1 ≤ (opField w).toNat ∧ (opField w).toNat ≤ 5) := by
  rcases accepted_or_off_map w with ⟨i, hi⟩ | hoff
  · have hop := opField_bits_assigned i.row (row_mem_opcodeMap i)
    rw [← opField_of_accepts (row_mem_opcodeMap i) hi] at hop
    simp [decode_of_accepts hi, hop]
  · rw [decode_off_map hoff]
    split <;> simp [*]

end

/-! What the encoder writes: its word is accepted by the command's row, the operands stand at the fields' places, and a
word is made of its row's bits and its fields alone. -/

theorem row_accepts_encode (i : Instr) : i.row.accepts (encode i) = true := by
  cases i with
  | connect b sl v => exact Laws.EncodeMatchesRow.connect b sl v
  | readRegs n a => exact Laws.EncodeMatchesRow.readRegs n a
  | writeReg a v => exact Laws.EncodeMatchesRow.writeReg a v
  | pollCycle => exact Laws.EncodeMatchesRow.pollCycle
  | teardown => exact Laws.EncodeMatchesRow.teardown

/-- Every field of an encoded word is the operand: it is read at its own place, where no other field has a bit. -/
theorem withFieldsOf_encode (i : Instr) : withFieldsOf (encode i) i = i := by
  cases i with
  | connect b sl v =>
    have hverbose : verboseField (encode (.connect b sl v)) = v := by
      simp only [verboseField, encode, BitVec.getLsbD_or, getLsbD_bitAt, getLsbD_fieldAt]
      simp
    rw [withFieldsOf, hverbose]
    simp [baudField, slaveField, encode, BitVec.extractLsb'_or, extractLsb'_fieldAt_same,
      extractLsb'_fieldAt_apart, extractLsb'_bitAt_apart]
  | readRegs n a =>
    simp [withFieldsOf, countField, addrField, encode, BitVec.extractLsb'_or, extractLsb'_fieldAt_same,
      extractLsb'_fieldAt_apart]
  | writeReg a v =>
    simp [withFieldsOf, addrField, valueField, encode, BitVec.extractLsb'_or, extractLsb'_fieldAt_same,
      extractLsb'_fieldAt_apart]
  | pollCycle | teardown => rfl

/-- A field of a word, put back at its place, is the word masked to that place. -/
theorem fieldAt_extractLsb' (w : CmdWord) (lo n : Nat) :
    fieldAt 64 lo (w.extractLsb' lo n) = w &&& fieldAt 64 lo (BitVec.allOnes n) := by
  apply BitVec.eq_of_getLsbD_eq
  intro i hi
  rw [BitVec.getLsbD_and, getLsbD_fieldAt, getLsbD_fieldAt, BitVec.getLsbD_extractLsb', BitVec.getLsbD_allOnes]
  by_cases hlo : lo ≤ i
  · simp [hi, hlo, Nat.add_sub_cancel' hlo, Bool.and_comm]
  · simp [hlo]

theorem bitAt_getLsbD (w : CmdWord) (lo : Nat) :
    bitAt 64 lo (w.getLsbD lo) = w &&& fieldAt 64 lo (BitVec.allOnes 1) := by
  rw [← fieldAt_extractLsb', bitAt]
  congr 1
  apply BitVec.eq_of_getLsbD_eq
  intro i hi
  obtain rfl : i = 0 := by omega
  simp

/-! The bits that a row's mask leaves free are those of its fields, and no others (30 R121 to R123). -/

theorem freeBits_connect : ~~~OpRow.connect.mask =
    fieldAt 64 8 (BitVec.allOnes 3) ||| fieldAt 64 16 (BitVec.allOnes 5) ||| fieldAt 64 24 (BitVec.allOnes 1) := by
  decide

theorem freeBits_readRegs :
    ~~~OpRow.readRegs.mask = fieldAt 64 8 (BitVec.allOnes 8) ||| fieldAt 64 16 (BitVec.allOnes 16) := by decide

theorem freeBits_writeReg :
    ~~~OpRow.writeReg.mask = fieldAt 64 16 (BitVec.allOnes 16) ||| fieldAt 64 32 (BitVec.allOnes 16) := by decide

theorem encode_withFieldsOf (w : CmdWord) (i : Instr) :
    encode (withFieldsOf w i) = i.row.bits ||| w &&& ~~~i.row.mask := by
  cases i with
  | connect b sl v =>
    simp only [withFieldsOf, encode, baudField, slaveField, verboseField, fieldAt_extractLsb', bitAt_getLsbD,
      Instr.row, freeBits_connect, BitVec.and_or_distrib_left, BitVec.or_assoc]
    rfl
  | readRegs n a =>
    simp only [withFieldsOf, encode, countField, addrField, fieldAt_extractLsb', Instr.row, freeBits_readRegs,
      BitVec.and_or_distrib_left, BitVec.or_assoc]
    rfl
  | writeReg a v =>
    simp only [withFieldsOf, encode, addrField, valueField, fieldAt_extractLsb', Instr.row, freeBits_writeReg,
      BitVec.and_or_distrib_left, BitVec.or_assoc]
    rfl
  | pollCycle | teardown => simp [withFieldsOf, encode, Instr.row, OpRow.pollCycle, OpRow.teardown]

theorem encode_of_accepts {w : CmdWord} {i : Instr} (h : i.row.accepts w = true) : encode (withFieldsOf w i) = w :=
  calc encode (withFieldsOf w i)
    _ = i.row.bits ||| w &&& ~~~i.row.mask := encode_withFieldsOf w i
    _ = w &&& i.row.mask ||| w &&& ~~~i.row.mask := by rw [accepts_iff.mp h]
    _ = w := by rw [← BitVec.and_or_distrib_left, BitVec.or_not_self, BitVec.and_allOnes]

theorem decode_encode (i : Instr) : decode (encode i) = .ok i :=
  decode_eq_ok_iff.mpr ⟨row_accepts_encode i, withFieldsOf_encode i⟩

theorem worked_encoding {text : String} {i : Instr} {w : CmdWord}
    (htext : assembleLine text.toList = some (.command i)) (hword : encode i = w) :
    assembleLine text.toList = some (.command i) ∧ encode i = w ∧ decode w = .ok i :=
  ⟨htext, hword, hword ▸ decode_encode i⟩

/-- A field as a number: the quotient and remainder that its place gives (00 R12). -/
theorem toNat_extractLsb'_eq_div_mod (w : CmdWord) (lo n : Nat) :
    (w.extractLsb' lo n).toNat = w.toNat / 2 ^ lo % 2 ^ n := by
  rw [BitVec.extractLsb'_toNat, Nat.shiftRight_eq_div_pow]

theorem toNat_opField (w : CmdWord) : (opField w).toNat = w.toNat % 256 := by
  simp only [opField, toNat_extractLsb'_eq_div_mod, Nat.reducePow, Nat.div_one]

end Sys2Proof.Machine

namespace Sys2Proof.Proofs

open Sys2Proof.Machine

/-- Settles O1: the command's own row accepts its word, and the fields of the word are the operands. -/
theorem decodeOfEncodeIsTheCommand : Obligations.DecodeOfEncodeIsTheCommand := decode_encode

/-- Settles O2: the word is its row's bits and its fields, which is what the encoder writes. -/
theorem encodeOfDecodeIsTheWord : Obligations.EncodeOfDecodeIsTheWord := by
  intro w i h
  rw [← withFieldsOf_of_decode h, encode_of_accepts (accepts_of_decode h)]

/-- Settles O3: a row's match and mask are its `accepts`, and the operands are the word's own fields. -/
theorem decodeFollowsTheOpcodeMap : Obligations.DecodeFollowsTheOpcodeMap := by
  intro w
  have hrow (i : Instr) : w &&& i.row.mask = i.row.bits → decode w = .ok (withFieldsOf w i) :=
    fun h => decode_of_accepts (accepts_iff.mpr h)
  have hmatch {i : Instr} (h : decode w = .ok i) : w &&& i.row.mask = i.row.bits :=
    accepts_iff.mp (accepts_of_decode h)
  refine ⟨⟨fun h => ⟨_, _, _, hrow (.connect 0 0 false) h⟩, fun ⟨_, _, _, h⟩ => hmatch h⟩,
    ⟨fun h => ⟨_, _, hrow (.readRegs 0 0) h⟩, fun ⟨_, _, h⟩ => hmatch h⟩,
    ⟨fun h => ⟨_, _, hrow (.writeReg 0 0) h⟩, fun ⟨_, _, h⟩ => hmatch h⟩,
    ⟨hrow .pollCycle, hmatch⟩, ⟨hrow .teardown, hmatch⟩, fun b sl v h => ?_, fun n a h => ?_, fun a v h => ?_⟩
  · obtain ⟨rfl, rfl, rfl⟩ := Instr.connect.inj (withFieldsOf_of_decode h)
    exact ⟨toNat_extractLsb'_eq_div_mod w 8 3, toNat_extractLsb'_eq_div_mod w 16 5, rfl⟩
  · obtain ⟨rfl, rfl⟩ := Instr.readRegs.inj (withFieldsOf_of_decode h)
    exact ⟨toNat_extractLsb'_eq_div_mod w 8 8, toNat_extractLsb'_eq_div_mod w 16 16⟩
  · obtain ⟨rfl, rfl⟩ := Instr.writeReg.inj (withFieldsOf_of_decode h)
    exact ⟨toNat_extractLsb'_eq_div_mod w 16 16, toNat_extractLsb'_eq_div_mod w 32 16⟩

/-- Settles O4: off the map the OP tells the two errors apart, and a word on the map has an assigned OP. -/
theorem illegalWordsAreThoseOffTheMap : Obligations.IllegalWordsAreThoseOffTheMap := by
  intro w
  rw [decode_eq_unknownOpcode_iff, decode_eq_reservedBit_iff, forall_mem_opcodeMap, toNat_opField, and_assoc,
    accepts_eq_false_iff (r := .connect), accepts_eq_false_iff (r := .readRegs), accepts_eq_false_iff (r := .writeReg),
    accepts_eq_false_iff_ne (r := .pollCycle) rfl, accepts_eq_false_iff_ne (r := .teardown) rfl]
  exact ⟨by omega, Iff.rfl⟩

/-- Settles O5: the assembler reads the table's texts, the encoder writes its words, and those decode by
`decode_encode`. -/
theorem workedEncodingsAgree : Obligations.WorkedEncodingsAgree := by
  refine ⟨?_, ?_, ?_, ?_, ?_, ?_, ?_, ?_⟩ <;> exact worked_encoding (by decide) (by decide)

end Sys2Proof.Proofs
end

section
/-! The framer (40 R175 to R182): the checks of `validate` over a frame that is a body with two CRC bytes after it. -/

namespace Sys2Proof.Machine

/-! Bytes and words of a frame (20 R100, 30 R132). -/

@[simp] theorem hiByte_wordOf (hi lo : Byte) : hiByte (wordOf hi lo) = hi := BitVec.extractLsb'_append_eq_left

@[simp] theorem loByte_wordOf (hi lo : Byte) : loByte (wordOf hi lo) = lo := BitVec.extractLsb'_append_eq_right

theorem byteAt_append_left {bs : List Byte} {i : Nat} (cs : List Byte) (h : i < bs.length) :
    byteAt (bs ++ cs) i = byteAt bs i :=
  List.getD_append bs cs 0 i h

theorem byteAt_append_right (bs cs : List Byte) (i : Nat) : byteAt (bs ++ cs) (bs.length + i) = byteAt cs i := by
  rw [byteAt, List.getD_append_right _ _ _ _ (Nat.le_add_right _ _), Nat.add_sub_cancel_left, byteAt]

@[simp] theorem wordBytes_length (ws : List Word) : (wordBytes ws).length = 2 * ws.length := by
  induction ws with
  | nil => rfl
  | cons w ws ih => simp [wordBytes, ih]; omega

/-- The words of a response begin behind its three header bytes. -/
theorem responseWords_header (x y z : Byte) (data : List Byte) (n : Nat) :
    responseWords (x :: y :: z :: data) n =
      (List.range n).map fun i => wordOf (byteAt data (2 * i)) (byteAt data (2 * i + 1)) := by
  refine List.map_congr_left fun i _ => ?_
  rw [show 3 + 2 * i = 2 * i + 3 by omega, show 4 + 2 * i = 2 * i + 1 + 3 by omega]
  rfl

theorem responseWords_succ (x y z hi lo : Byte) (data : List Byte) (n : Nat) :
    responseWords (x :: y :: z :: hi :: lo :: data) (n + 1) = wordOf hi lo :: responseWords (x :: y :: z :: data) n := by
  simp only [responseWords_header, List.range_succ_eq_map, List.map_cons, List.map_map]
  rfl

/-- The words sent are the words read. -/
theorem responseWords_wordBytes (x y z : Byte) (ws : List Word) :
    responseWords (x :: y :: z :: wordBytes ws) ws.length = ws := by
  induction ws with
  | nil => rfl
  | cons w ws ih => rw [wordBytes, List.length_cons, responseWords_succ, ih, wordOf_hi_lo]

/-- The words read are the bytes received, all of them where the byte count is even. -/
theorem wordBytes_responseWords (x y z : Byte) {data : List Byte} {n : Nat} (h : data.length = 2 * n) :
    wordBytes (responseWords (x :: y :: z :: data) n) = data := by
  induction n generalizing data with
  | zero => rw [List.length_eq_zero_iff.mp h]; rfl
  | succ n ih =>
    match data with
    | hi :: lo :: data =>
      have hdata : data.length = 2 * n := by simp only [List.length_cons] at h; omega
      rw [responseWords_succ, wordBytes, ih hdata, hiByte_wordOf, loByte_wordOf]

theorem responseWords_append {bs : List Byte} {n : Nat} (cs : List Byte) (h : 3 + 2 * n ≤ bs.length) :
    responseWords (bs ++ cs) n = responseWords bs n := by
  refine List.map_congr_left fun i hi => ?_
  have hi := List.mem_range.mp hi
  rw [byteAt_append_left cs (by omega), byteAt_append_left cs (by omega)]

/-! A frame is a body and its CRC (40 R176). -/

@[simp] theorem withCrc_length (p : CrcProfile) (body : List Byte) : (withCrc p body).length = body.length + 2 := by
  simp [withCrc, crcBytes]

theorem byteAt_withCrc (p : CrcProfile) {body : List Byte} {i : Nat} (h : i < body.length) :
    byteAt (withCrc p body) i = byteAt body i :=
  byteAt_append_left _ h

theorem withCrc_ne_nil (p : CrcProfile) (body : List Byte) : withCrc p body ≠ [] :=
  List.ne_nil_of_length_pos (by simp)

theorem crc16_eq_wordOf_iff (p : CrcProfile) (body : List Byte) (lo hi : Byte) :
    crc16 p body = wordOf hi lo ↔ [lo, hi] = crcBytes p body := by
  constructor
  · intro h; simp [crcBytes, h]
  · intro h
    obtain ⟨rfl, rfl⟩ : lo = loByte (crc16 p body) ∧ hi = hiByte (crc16 p body) := by simpa [crcBytes] using h
    exact (wordOf_hi_lo _).symm

theorem eq_append_two_of_two_le_length {bs : List Byte} (h : 2 ≤ bs.length) :
    ∃ body lo hi, bs = body ++ [lo, hi] := by
  obtain ⟨lo, hi, hlast⟩ := List.length_eq_two.mp (show (bs.drop (bs.length - 2)).length = 2 by simp; omega)
  exact ⟨bs.take (bs.length - 2), lo, hi, by rw [← hlast, List.take_append_drop]⟩

/-- What `validate` checks of a frame once its length and its CRC have passed, in the order of 40 R182. -/
def checksAfterCrc (req bs : List Byte) : Verdict :=
  if byteAt bs 0 ≠ byteAt req 0 then .failed .badSlave
  else if byteAt bs 1 = byteAt req 1 ||| excFlag then
    if bs.length = 5 then .slaveException (byteAt bs 2) else .failed .malformed
  else if byteAt bs 1 ≠ byteAt req 1 then .failed .badFunction
  else if byteAt req 1 = fcRead then
    if (byteAt bs 2).toNat ≠ 2 * requestCount req ∨ bs.length ≠ 5 + 2 * requestCount req then .failed .badLength
    else .ok (responseWords bs (requestCount req))
  else if bs ≠ req then .failed .badEcho
  else .ok []

section
variable (p : CrcProfile) (req : List Byte)

theorem validate_received {bs : List Byte} (h : bs ≠ []) :
    validate p req (received bs) = validateBytes p req bs := by
  match bs with
  | b :: bs => rfl

theorem validateBytes_of_bad_size {bs : List Byte} (h : bs.length < 4 ∨ 256 < bs.length) :
    validateBytes p req bs = .failed .malformed :=
  if_pos h

/-- The CRC check of `validate` is on the body and the two bytes after it. -/
theorem validateBytes_append_two {body : List Byte} (lo hi : Byte) (hmin : 2 ≤ body.length) (hmax : body.length ≤ 254) :
    validateBytes p req (body ++ [lo, hi]) =
      if [lo, hi] ≠ crcBytes p body then .failed .crcError else checksAfterCrc req (body ++ [lo, hi]) := by
  have hlen : (body ++ [lo, hi]).length = body.length + 2 := by simp
  have hlo : byteAt (body ++ [lo, hi]) body.length = lo := byteAt_append_right body [lo, hi] 0
  have hhi : byteAt (body ++ [lo, hi]) (body.length + 1) = hi := byteAt_append_right body [lo, hi] 1
  have htake : (body ++ [lo, hi]).take body.length = body := List.take_left
  have hsize : ¬ (body.length + 2 < 4 ∨ 256 < body.length + 2) := by omega
  unfold validateBytes checksAfterCrc
  simp only [hlen, if_neg hsize, Nat.add_sub_cancel, htake, show body.length + 2 - 1 = body.length + 1 from rfl, hhi,
    hlo, ne_eq, crc16_eq_wordOf_iff]

theorem validate_withCrc {body : List Byte} (hmin : 2 ≤ body.length) (hmax : body.length ≤ 254) :
    validate p req (received (withCrc p body)) = checksAfterCrc req (withCrc p body) := by
  rw [validate_received p req (withCrc_ne_nil p body)]
  exact (validateBytes_append_two p req _ _ hmin hmax).trans (if_neg (not_not_intro rfl))

/-- An accepted frame is received without error, of a legal length, and ends in the CRC of the rest. -/
theorem validate_eq_ok_iff {o : RxOutcome} {ws : List Word} :
    validate p req o = .ok ws ↔ ∃ body : List Byte, 2 ≤ body.length ∧ body.length ≤ 254 ∧
      o = received (withCrc p body) ∧ checksAfterCrc req (withCrc p body) = .ok ws := by
  constructor
  · intro h
    match o with
    | .frame b bs false =>
      have hsize : ¬ ((b :: bs).length < 4 ∨ 256 < (b :: bs).length) := by
        intro hsize
        cases (validateBytes_of_bad_size p req hsize).symm.trans h
      obtain ⟨body, lo, hi, hbs⟩ := eq_append_two_of_two_le_length (bs := b :: bs) (by omega)
      have hlen : (b :: bs).length = body.length + 2 := by simp [hbs]
      have hv : validateBytes p req (body ++ [lo, hi]) = .ok ws := hbs ▸ h
      rw [validateBytes_append_two p req lo hi (by omega) (by omega)] at hv
      split at hv
      · cases hv
      · next hcrc =>
        have hframe : body ++ [lo, hi] = withCrc p body := by rw [withCrc, not_not.mp hcrc]
        refine ⟨body, by omega, by omega, ?_, hframe ▸ hv⟩
        rw [← hframe, ← hbs]
        rfl
  · rintro ⟨body, hmin, hmax, rfl, h⟩
    rw [validate_withCrc p req hmin hmax, h]

end

/-! The checks after the CRC, one equation for each way through them. -/

section
variable {req bs : List Byte}

theorem checksAfterCrc_of_other_slave (h : byteAt bs 0 ≠ byteAt req 0) :
    checksAfterCrc req bs = .failed .badSlave :=
  if_pos h

theorem checksAfterCrc_of_exception (hslave : byteAt bs 0 = byteAt req 0)
    (hfc : byteAt bs 1 = byteAt req 1 ||| excFlag) :
    checksAfterCrc req bs = if bs.length = 5 then .slaveException (byteAt bs 2) else .failed .malformed := by
  rw [checksAfterCrc, if_neg (not_not_intro hslave), if_pos hfc]

theorem checksAfterCrc_of_other_function (hslave : byteAt bs 0 = byteAt req 0)
    (hexc : byteAt bs 1 ≠ byteAt req 1 ||| excFlag) (hfc : byteAt bs 1 ≠ byteAt req 1) :
    checksAfterCrc req bs = .failed .badFunction := by
  rw [checksAfterCrc, if_neg (not_not_intro hslave), if_neg hexc, if_pos hfc]

theorem checksAfterCrc_of_read (hslave : byteAt bs 0 = byteAt req 0) (hreq : byteAt req 1 = fcRead)
    (hfc : byteAt bs 1 = fcRead) :
    checksAfterCrc req bs =
      if (byteAt bs 2).toNat ≠ 2 * requestCount req ∨ bs.length ≠ 5 + 2 * requestCount req then .failed .badLength
      else .ok (responseWords bs (requestCount req)) := by
  have hexc : fcRead ≠ fcRead ||| excFlag := by decide
  rw [checksAfterCrc, if_neg (not_not_intro hslave), hfc, hreq, if_neg hexc, if_neg (not_not_intro rfl), if_pos rfl]

theorem checksAfterCrc_of_write (hslave : byteAt bs 0 = byteAt req 0) (hreq : byteAt req 1 = fcWrite)
    (hfc : byteAt bs 1 = fcWrite) :
    checksAfterCrc req bs = if bs ≠ req then .failed .badEcho else .ok [] := by
  have hexc : fcWrite ≠ fcWrite ||| excFlag := by decide
  have hread : fcWrite ≠ fcRead := by decide
  rw [checksAfterCrc, if_neg (not_not_intro hslave), hfc, hreq, if_neg hexc, if_neg (not_not_intro rfl), if_neg hread]

/-- An accepted frame has the slave and the function code of its request. -/
theorem slave_and_function_of_checksAfterCrc_eq_ok {ws : List Word} (h : checksAfterCrc req bs = .ok ws) :
    byteAt bs 0 = byteAt req 0 ∧ byteAt bs 1 = byteAt req 1 := by
  by_cases hslave : byteAt bs 0 = byteAt req 0
  · by_cases hexc : byteAt bs 1 = byteAt req 1 ||| excFlag
    · rw [checksAfterCrc_of_exception hslave hexc] at h
      split at h <;> cases h
    · by_cases hfc : byteAt bs 1 = byteAt req 1
      · exact ⟨hslave, hfc⟩
      · cases (checksAfterCrc_of_other_function hslave hexc hfc).symm.trans h
  · cases (checksAfterCrc_of_other_slave hslave).symm.trans h

end

/-! The frames accepted for each of the two requests that are sent (30 R137). -/

theorem checksAfterCrc_read_eq_ok_iff {req bs : List Byte} {ws : List Word} (hreq : byteAt req 1 = fcRead) :
    checksAfterCrc req bs = .ok ws ↔
      byteAt bs 0 = byteAt req 0 ∧ byteAt bs 1 = fcRead ∧ (byteAt bs 2).toNat = 2 * requestCount req ∧
        bs.length = 5 + 2 * requestCount req ∧ responseWords bs (requestCount req) = ws := by
  constructor
  · intro h
    obtain ⟨hslave, hfc⟩ := slave_and_function_of_checksAfterCrc_eq_ok h
    rw [hreq] at hfc
    rw [checksAfterCrc_of_read hslave hreq hfc] at h
    split at h
    · cases h
    · next hlen =>
      obtain ⟨hcount, hsize⟩ := not_or.mp hlen
      exact ⟨hslave, hfc, not_not.mp hcount, not_not.mp hsize, by injection h⟩
  · rintro ⟨hslave, hfc, hcount, hsize, rfl⟩
    rw [checksAfterCrc_of_read hslave hreq hfc, if_neg (not_or.mpr ⟨not_not_intro hcount, not_not_intro hsize⟩)]

theorem checksAfterCrc_write_eq_ok_iff {req bs : List Byte} {ws : List Word} (hreq : byteAt req 1 = fcWrite) :
    checksAfterCrc req bs = .ok ws ↔ bs = req ∧ ws = [] := by
  constructor
  · intro h
    obtain ⟨hslave, hfc⟩ := slave_and_function_of_checksAfterCrc_eq_ok h
    rw [checksAfterCrc_of_write hslave hreq (hfc.trans hreq)] at h
    split at h
    · cases h
    · next hecho => exact ⟨not_not.mp hecho, by injection h with h; exact h.symm⟩
  · rintro ⟨rfl, rfl⟩
    rw [checksAfterCrc_of_write rfl hreq hreq, if_neg (not_not_intro rfl)]

/-- The body of a 0x03 response to a request for as many registers as `ws` has is told by its header, its length and the
words read from it (30 R132). -/
theorem readBody_iff {sl : Byte} {body : List Byte} {ws : List Word} (hws : ws.length ≤ 125) :
    (byteAt body 0 = sl ∧ byteAt body 1 = fcRead ∧ (byteAt body 2).toNat = 2 * ws.length ∧
        body.length = 3 + 2 * ws.length ∧ responseWords body ws.length = ws) ↔
      body = sl :: fcRead :: BitVec.ofNat 8 (2 * ws.length) :: wordBytes ws := by
  have hsmall : (BitVec.ofNat 8 (2 * ws.length)).toNat = 2 * ws.length :=
    (BitVec.toNat_ofNat _ 8).trans (Nat.mod_eq_of_lt (by omega))
  constructor
  · rintro ⟨hsl, hfn, hcount, hlen, hwords⟩
    match body, hlen.trans (Nat.add_comm 3 _) with
    | x :: y :: z :: data, _ =>
      obtain rfl : x = sl := hsl
      obtain rfl : y = fcRead := hfn
      have hz : z = BitVec.ofNat 8 (2 * ws.length) := BitVec.eq_of_toNat_eq (hcount.trans hsmall.symm)
      have hdata : data.length = 2 * ws.length := by simp only [List.length_cons] at hlen; omega
      rw [← hz, ← wordBytes_responseWords x fcRead z hdata, hwords]
  · rintro rfl
    refine ⟨rfl, rfl, hsmall, ?_, responseWords_wordBytes _ _ _ ws⟩
    simp only [List.length_cons, wordBytes_length]
    omega

/-- A read accepts a framed body exactly when the body is the response that carries the words. -/
theorem checksAfterCrc_readRequest_eq_ok_iff (p : CrcProfile) (sl : Byte) (a : Word) {n : Nat} {body : List Byte}
    {ws : List Word} (hn : n ≤ 125) :
    checksAfterCrc (requestFrame p sl fcRead a (BitVec.ofNat 16 n)) (withCrc p body) = .ok ws ↔
      ws.length = n ∧ body = sl :: fcRead :: BitVec.ofNat 8 (2 * ws.length) :: wordBytes ws := by
  have hcount : requestCount (requestFrame p sl fcRead a (BitVec.ofNat 16 n)) = n := by
    rw [requestFrame_count, BitVec.toNat_ofNat, Nat.mod_eq_of_lt (by omega)]
  rw [checksAfterCrc_read_eq_ok_iff rfl, hcount, requestFrame_slave, withCrc_length]
  constructor
  · rintro ⟨hsl, hfn, hbytes, hlen, hwords⟩
    have hws : ws.length = n := by rw [← hwords, responseWords_length]
    subst hws
    rw [byteAt_withCrc p (by omega)] at hsl hfn hbytes
    rw [withCrc, responseWords_append _ (by omega)] at hwords
    exact ⟨rfl, (readBody_iff hn).mp ⟨hsl, hfn, hbytes, by omega, hwords⟩⟩
  · rintro ⟨rfl, hbody⟩
    obtain ⟨hsl, hfn, hbytes, hlen, hwords⟩ := (readBody_iff hn).mpr hbody
    rw [byteAt_withCrc p (by omega), byteAt_withCrc p (by omega), byteAt_withCrc p (by omega), withCrc,
      responseWords_append _ (by omega)]
    exact ⟨hsl, hfn, hbytes, by omega, hwords⟩

end Sys2Proof.Machine

namespace Sys2Proof.Proofs

open Sys2Proof.Machine

/-- Settles O39: an accepted frame is a body with its CRC, and the checks on the body leave only the response. -/
theorem readIsOkExactlyOnItsResponse : Obligations.ReadIsOkExactlyOnItsResponse := by
  intro p sl a n o ws hn
  rw [validate_eq_ok_iff]
  constructor
  · rintro ⟨body, -, -, rfl, h⟩
    obtain ⟨hlen, rfl⟩ := (checksAfterCrc_readRequest_eq_ok_iff p sl a hn).mp h
    exact ⟨hlen, rfl⟩
  · rintro ⟨hlen, rfl⟩
    refine ⟨_, ?_, ?_, rfl, (checksAfterCrc_readRequest_eq_ok_iff p sl a hn).mpr ⟨hlen, rfl⟩⟩ <;>
      simp only [List.length_cons, wordBytes_length] <;> omega

/-- Settles O40: of the frames that pass the length and the CRC only the request itself passes the last check. -/
theorem writeIsOkExactlyOnItsEcho : Obligations.WriteIsOkExactlyOnItsEcho := by
  intro p sl a x o ws
  rw [validate_eq_ok_iff]
  constructor
  · rintro ⟨body, -, -, rfl, h⟩
    obtain ⟨hecho, rfl⟩ := (checksAfterCrc_write_eq_ok_iff rfl).mp h
    exact ⟨rfl, congrArg received hecho⟩
  · rintro ⟨rfl, rfl⟩
    exact ⟨[sl, 0x06, hiByte a, loByte a, hiByte x, loByte x], Nat.le_add_left 2 4, Nat.le_add_right 6 248, rfl,
      (checksAfterCrc_write_eq_ok_iff rfl).mpr ⟨rfl, rfl⟩⟩

/-- Settles O41: each clause passes the checks before its own by its hypotheses and fails its own. -/
theorem failureCausesComeInOrder : Obligations.FailureCausesComeInOrder := by
  intro p req
  have hchecks {body : List Byte} (hmin : 2 ≤ body.length) (hmax : body.length ≤ 254) :
      validate p req (received (withCrc p body)) = checksAfterCrc req (withCrc p body) ∧
        byteAt (withCrc p body) 0 = byteAt body 0 ∧ byteAt (withCrc p body) 1 = byteAt body 1 :=
    ⟨validate_withCrc p req hmin hmax, byteAt_withCrc p (by omega), byteAt_withCrc p hmin⟩
  refine ⟨rfl, fun b bs => rfl, fun b bs hsize => validateBytes_of_bad_size p req hsize, ?_, ?_, ?_, ?_, ?_, ?_, ?_⟩
  · intro body lo hi hmin hmax hcrc
    rw [validate_received p req (by simp), validateBytes_append_two p req lo hi hmin hmax, if_pos hcrc]
  · intro body hmin hmax hslave
    obtain ⟨hv, h0, -⟩ := hchecks hmin hmax
    rw [hv, checksAfterCrc_of_other_slave (h0 ▸ hslave)]
  · intro exc
    obtain ⟨hv, h0, h1⟩ := hchecks (body := [byteAt req 0, byteAt req 1 ||| 0x80, exc]) (Nat.le_succ 2)
      (Nat.le_add_right 3 251)
    rw [hv, checksAfterCrc_of_exception (req := req) h0 h1]
    exact if_pos rfl
  · intro body hmin hmax hlen hslave hexc
    obtain ⟨hv, h0, h1⟩ := hchecks hmin hmax
    rw [hv, checksAfterCrc_of_exception (h0.trans hslave) (h1.trans hexc), withCrc_length, if_neg (by omega)]
  · intro body hmin hmax hslave hexc hfc
    obtain ⟨hv, h0, h1⟩ := hchecks hmin hmax
    rw [hv, checksAfterCrc_of_other_function (h0.trans hslave) (h1 ▸ hexc) (h1 ▸ hfc)]
  · intro body hmin hmax hslave hreq hfc hlen
    obtain ⟨hv, h0, h1⟩ := hchecks hmin hmax
    rw [hv, checksAfterCrc_of_read (h0.trans hslave) hreq (h1.trans hfc), withCrc_length, if_pos]
    by_cases hsize : body.length = 3 + 2 * requestCount req
    · rw [byteAt_withCrc p (by omega)]
      exact .inl (hlen.resolve_right (not_not_intro hsize))
    · exact .inr (by omega)
  · intro body hmin hmax hslave hreq hfc hecho
    obtain ⟨hv, h0, h1⟩ := hchecks hmin hmax
    rw [hv, checksAfterCrc_of_write (h0.trans hslave) hreq (h1.trans hfc), if_pos hecho]

end Sys2Proof.Proofs
end

section
/-! Who writes XFER_CAUSE and XFER_EXC (40 R184): a transaction, together with the frame it sends, and nothing else. -/

namespace Sys2Proof.Machine

/-- `t` has sent no frame since `s`, and holds the transaction fields as `s` does. -/
def SameXfer (s t : State) : Prop :=
  t.env.sent = s.env.sent ∧ t.status.xferCause = s.status.xferCause ∧ t.status.xferExc = s.status.xferExc

/-- An update of other fields is the same state to this relation, by definition: later proofs give it as `refl`. -/
theorem SameXfer.refl (s : State) : SameXfer s s := ⟨rfl, rfl, rfl⟩

/-- `t` has sent one frame since `s`, and holds the transaction fields of the line's answer to it. -/
def Transacted (s t : State) : Prop :=
  ∃ req, t.env.sent = s.env.sent ++ [req] ∧ t.status.xferCause = (Claims.verdict s req).cause ∧
    t.status.xferExc = (Claims.verdict s req).exc

theorem transact_transacted (s : State) (req : List Byte) : Transacted s (transact s req) := ⟨req, rfl, rfl, rfl⟩

/-- Either no transaction was made between the two states, or one. -/
def XferFollows (s t : State) : Prop := SameXfer s t ∨ Transacted s t

theorem XferFollows.refl (s : State) : XferFollows s s := .inl (SameXfer.refl s)

theorem XferFollows.trans_same {s t u : State} (h : XferFollows s t) (h' : SameXfer t u) : XferFollows s u := by
  obtain ⟨hsent, hcause, hexc⟩ := h'
  unfold XferFollows SameXfer Transacted
  rwa [hsent, hcause, hexc]

/-! POLL_CYCLE: an attempt makes at most the one transaction of `read_registers`. -/

theorem readRegisters_xferFollows (s : State) (a : Word) (n : Nat) : XferFollows s (readRegisters s a n) := by
  rcases readRegisters_cases s a n with h | h <;> rw [h]
  · exact .inr (transact_transacted s _)
  · exact XferFollows.refl s

theorem alarmStep_sameXfer (a : Bool) (c : Word) (s : State) : SameXfer s (alarmStep a c s) := by
  rcases alarmStep_cases a c s with ⟨-, h⟩ | ⟨-, -, -, h⟩ | ⟨-, -, -, h⟩ <;> rw [h] <;> exact SameXfer.refl s

theorem evaluateAlarm_sameXfer (s : State) : SameXfer s (evaluateAlarm s) := by
  rcases evaluateAlarm_cases s with ⟨-, h⟩ | ⟨-, h⟩ <;> rw [h] <;> exact SameXfer.refl s

theorem storeBlock_sameXfer (b : Blk) (w : List Word) (s : State) : SameXfer s (storeBlock b w s) := by
  cases b with
  | io => exact evaluateAlarm_sameXfer (storeIo w s)
  | err => exact alarmStep_sameXfer true (wordAt w 0) _
  | speed | torque | alarm | finish => exact SameXfer.refl s

theorem failAttempt_sameXfer (b : Blk) (k : Nat) (s : State) : SameXfer s (failAttempt b k s) := by
  rcases failAttempt_cases b k s with ⟨-, h⟩ | ⟨-, h⟩ <;> rw [h] <;> exact SameXfer.refl s

/-- The state that reads differs from `s` in CYCLE_RESULT alone, so its verdict is the one `s` gives. -/
theorem attemptBlock_xferFollows (b : Blk) (s : State) : XferFollows s (attemptBlock b s) := by
  have hread : XferFollows s (readRegisters (s.setCycle (setAttempts b (s.seq.att + 1) s.cycle))
      (blockAddr s.params b) (blockCount b)) :=
    readRegisters_xferFollows (s.setCycle (setAttempts b (s.seq.att + 1) s.cycle)) _ _
  rcases attemptBlock_cases b s with ⟨-, h⟩ | ⟨-, h⟩ <;> rw [h]
  · exact hread.trans_same (storeBlock_sameXfer b _ _)
  · exact hread.trans_same (failAttempt_sameXfer b _ _)

theorem alarmClearPath_sameXfer (s : State) : SameXfer s (alarmClearPath s) := by
  rcases alarmClearPath_cases s with ⟨-, h⟩ | ⟨-, h⟩ <;> rw [h] <;> exact SameXfer.refl s

theorem pollStep_xferFollows (s : State) : XferFollows s (pollStep s) := by
  rcases pollStep_cases s with ⟨-, -, h⟩ | ⟨-, ⟨-, h⟩ | ⟨-, h⟩ | ⟨-, -, h⟩⟩ <;> rw [h]
  · exact XferFollows.refl s
  · exact .inl (alarmClearPath_sameXfer s)
  · exact XferFollows.refl s
  · exact attemptBlock_xferFollows s.seq.blk s

/-! The Transport commands: READ_REGS and WRITE_REG make one transaction on an open link. -/

theorem connectBody_sameXfer (g : LinkCfg) (s : State) : SameXfer s (connectBody g s) := by
  rcases connectBody_cases g s with ⟨-, h⟩ | ⟨-, -, h⟩ | ⟨-, -, -, ⟨-, h⟩ | ⟨-, h⟩ | ⟨-, h⟩⟩ <;> rw [h] <;>
    exact SameXfer.refl s

theorem readRegsBody_xferFollows (n : BitVec 8) (a : Word) (s : State) : XferFollows s (readRegsBody n a s) := by
  rcases readRegsBody_cases n a s with ⟨-, h⟩ | ⟨-, -, h⟩ | ⟨-, -, ⟨ws, -, -, h⟩ | ⟨-, h⟩⟩ <;> rw [h]
  · exact XferFollows.refl s
  · exact XferFollows.refl s
  · exact .inr (transact_transacted s _)
  · exact .inr (transact_transacted s _)

theorem writeRegBody_xferFollows (a v : Word) (s : State) : XferFollows s (writeRegBody a v s) := by
  rcases writeRegBody_cases a v s with ⟨-, h⟩ | ⟨-, -, h⟩ | ⟨-, -, h⟩ <;> rw [h]
  · exact XferFollows.refl s
  · exact .inr (transact_transacted s _)
  · exact .inr (transact_transacted s _)

theorem teardownBody_sameXfer (s : State) : SameXfer s (teardownBody s) := by
  rcases teardownBody_cases s with ⟨-, h⟩ | ⟨-, h⟩ <;> rw [h] <;> exact SameXfer.refl s

theorem body_xferFollows (i : Instr) (s : State) : XferFollows s (body i s) := by
  cases i with
  | connect b sl v => exact .inl (connectBody_sameXfer _ s)
  | readRegs n a => exact readRegsBody_xferFollows n a s
  | writeReg a v => exact writeRegBody_xferFollows a v s
  | pollCycle => exact pollStep_xferFollows s
  | teardown => exact .inl (teardownBody_sameXfer s)

/-! A write of the host: acceptance, completion of an illegal word and rejection write other flags of STATUS. -/

theorem enter_sameXfer (i : Instr) (s : State) : SameXfer s (enter i s) := by
  rcases enter_cases i s with ⟨-, h⟩ | ⟨-, -, h⟩ | ⟨-, -, h⟩ <;> rw [h] <;> exact SameXfer.refl s

theorem accept_sameXfer (w : CmdWord) (s : State) : SameXfer s (accept w s) := by
  cases h : decode w with
  | ok i => exact accept_ok h s ▸ enter_sameXfer i (latch w s)
  | error e => exact accept_error h s ▸ SameXfer.refl s

theorem writeReg_sameXfer (n : Nat) (v : BitVec 64) (s : State) : SameXfer s (writeReg n v s) := by
  rcases writeReg_cases n v s with ⟨-, -, h⟩ | ⟨-, -, h⟩ | ⟨-, h⟩ | ⟨-, -, h⟩ <;> rw [h]
  · exact SameXfer.refl s
  · exact accept_sameXfer v s
  · exact SameXfer.refl s
  · exact SameXfer.refl s

/-- The agenda is no part of what the line answers or of what was sent. -/
theorem step_xferFollows {s t : State} (h : step s = .next t) (hr : Claims.noReset s) : XferFollows s t := by
  rcases step_cases h with ⟨u, hu, heng⟩ | ⟨-, rest, -, rfl⟩ | ⟨n, v, rest, -, rfl⟩ | ⟨rest, ha, -⟩
  · obtain ⟨a, rfl⟩ : ∃ a, u = s.withAgenda a := hu.elim (fun hs => ⟨_, hs.trans (withAgenda_self s).symm⟩) id
    rcases engineStep_cases heng with ⟨-, rfl⟩ | ⟨-, i, -, rfl⟩
    · exact XferFollows.refl s
    · exact body_xferFollows i (s.withAgenda a)
  · exact XferFollows.refl s
  · exact .inl (writeReg_sameXfer n v (s.withAgenda rest))
  · exact absurd ha (hr rest)

end Sys2Proof.Machine

namespace Sys2Proof.Proofs

open Sys2Proof.Machine

/-- Settles O26: each body makes no transaction or one, and every other update keeps the fields and sends nothing. -/
theorem transactionFieldsFollowTheTransaction : Obligations.TransactionFieldsFollowTheTransaction :=
  fun _ _ h hr => step_xferFollows h hr

end Sys2Proof.Proofs
end

section
/-! The CRC engine (40 R160 to R164): what the two CRC bytes do to the register they are the bytes of. -/

namespace Sys2Proof.Machine

theorem crcFold_append (p : CrcProfile) (c : Word) (bs cs : List Byte) :
    crcFold p c (bs ++ cs) = crcFold p (crcFold p c bs) cs := by
  induction bs generalizing c with
  | nil => rfl
  | cons b bs ih => exact ih (crcByte p c b)

/-- A bit step of a reflected CRC shifts an even register right. -/
theorem crcBitReflected_shiftLeft_succ (rpoly : Word) (b : Byte) {k : Nat} (hk : k < 8) :
    crcBitReflected rpoly (b.setWidth 16 <<< (k + 1)) = b.setWidth 16 <<< k := by
  have heven : (b.setWidth 16 <<< (k + 1)).getLsbD 0 = false := by simp
  rw [crcBitReflected, heven, if_neg Bool.false_ne_true]
  have hfits : b.toNat * 2 ^ k < 2 ^ 8 * 2 ^ 7 :=
    Nat.mul_lt_mul_of_lt_of_le b.isLt (Nat.pow_le_pow_right (by decide) (by omega)) (by decide)
  have hwide : (b.setWidth 16).toNat = b.toNat := BitVec.toNat_setWidth_of_le (by decide)
  apply BitVec.eq_of_toNat_eq
  simp only [BitVec.toNat_ushiftRight, BitVec.toNat_shiftLeft, hwide, Nat.shiftLeft_eq, Nat.shiftRight_eq_div_pow,
    Nat.pow_succ 2 k, ← Nat.mul_assoc]
  omega

/-- Eight bit steps of a reflected CRC bring a high byte down to the low one. -/
theorem eightTimes_crcBitReflected_shiftLeft (rpoly : Word) (b : Byte) :
    eightTimes (crcBitReflected rpoly) (b.setWidth 16 <<< 8) = b.setWidth 16 := by
  simp [eightTimes, crcBitReflected_shiftLeft_succ]

theorem xor_loByte (c : Word) : c ^^^ (loByte c).setWidth 16 = (hiByte c).setWidth 16 <<< 8 := by
  apply BitVec.eq_of_getLsbD_eq
  intro i hi
  by_cases h : i < 8
  · simp [loByte, hi, h]
  · have hindex : 8 + (i - 8) = i := by omega
    simp [loByte, hiByte, hi, h, hindex, show i - 8 < 8 by omega]

theorem crcByte_reflected {p : CrcProfile} (hp : crcReflected p = true) (c : Word) (b : Byte) :
    crcByte p c b = eightTimes (crcBitReflected (crcReflectedPoly p)) (c ^^^ b.setWidth 16) := by
  rw [crcByte, hp]

/-- The low byte of the register, given to a reflected CRC, leaves its high byte; that byte leaves 0 (40 R164). -/
theorem crcFold_own_bytes {p : CrcProfile} (hp : crcReflected p = true) (c : Word) :
    crcFold p c [loByte c, hiByte c] = 0 := by
  have hlow : crcByte p c (loByte c) = (hiByte c).setWidth 16 := by
    rw [crcByte_reflected hp, xor_loByte, eightTimes_crcBitReflected_shiftLeft]
  have hzero : eightTimes (crcBitReflected (crcReflectedPoly p)) 0 = 0 :=
    eightTimes_crcBitReflected_shiftLeft (crcReflectedPoly p) 0
  rw [crcFold, crcFold, crcFold, hlow, crcByte_reflected hp, BitVec.xor_self]
  exact hzero

theorem crc16_eq_crcFold (p : CrcProfile) (bs : List Byte) : crc16 p bs = crcFold p (crcInit p) bs :=
  BitVec.xor_zero

/-- The residue of a reflected profile is 0 (40 R164). -/
theorem crc16_withCrc {p : CrcProfile} (hp : crcReflected p = true) (bs : List Byte) : crc16 p (withCrc p bs) = 0 := by
  rw [crc16_eq_crcFold, withCrc, crcBytes, crcFold_append, ← crc16_eq_crcFold, crcFold_own_bytes hp]

end Sys2Proof.Machine

namespace Sys2Proof.Proofs

open Sys2Proof.Machine

/-- Settles O38: the register eats its own two bytes under the reflected profiles; the CCITT_FALSE frame of 40 R164 is
evaluated. -/
theorem reflectedCrcResidueIsZero : Obligations.ReflectedCrcResidueIsZero :=
  ⟨fun bs => ⟨crc16_withCrc rfl bs, crc16_withCrc rfl bs⟩, by decide +kernel, by decide +kernel⟩

/-- Settles O36: the frame is built byte by byte as 30 R131 writes it, and the worked example is evaluated. -/
theorem requestsAreEightBytes : Obligations.RequestsAreEightBytes :=
  ⟨fun _ _ _ _ => ⟨rfl, requestFrame_length _ _ _ _ _⟩, fun _ _ => rfl, by decide +kernel⟩

/-- Settles O37: the ten values are evaluated. -/
theorem crcCheckValuesAgree : Obligations.CrcCheckValuesAgree := by
  refine ⟨?_, ?_, ?_, ?_, ?_, ?_, ?_, ?_, ?_, ?_⟩ <;> decide +kernel

end Sys2Proof.Proofs
end

section
/-! The serial line (40 R170 to R181): the parity of a character, the byte sampled back, and the frame between silences. -/

namespace Sys2Proof.Machine

/-! The 8E1 character (40 R170). -/

/-- Folding `xor` over bits tells whether the ones among them are odd in number. -/
theorem foldl_xor_eq (bits : List Bool) (a : Bool) : bits.foldl xor a = (a ^^ decide (bits.count true % 2 = 1)) := by
  induction bits generalizing a with
  | nil => simp
  | cons b bits ih =>
    rw [List.foldl_cons, ih, List.count_cons]
    cases b with
    | false => simp
    | true =>
      have hflip : decide ((bits.count true + 1) % 2 = 1) = !decide (bits.count true % 2 = 1) := by
        rw [← decide_not]
        exact decide_eq_decide.mpr (by omega)
      simp [hflip]

/-- The parity bit makes the number of ones even (40 R170). -/
theorem count_dataBits_evenParity (b : Byte) : (dataBits b ++ [evenParity b]).count true % 2 = 0 := by
  rw [List.count_append, evenParity, foldl_xor_eq, Bool.false_xor]
  rcases Nat.mod_two_eq_zero_or_one ((dataBits b).count true) with h | h
  · simp [h]
  · simp [h]; omega

theorem getElem?_dataBits (b : Byte) {i : Nat} (hi : i < 8) : (dataBits b)[i]? = some (b.getLsbD i) := by
  rw [dataBits, List.getElem?_map, List.getElem?_range hi, Option.map_some]

theorem ofBoolListLE_dataBits (b : Byte) : BitVec.ofBoolListLE (dataBits b) = b :=
  BitVec.eq_of_getLsbD_eq fun i hi => by
    have hbit : (dataBits b).getD i false = b.getLsbD i := by
      rw [List.getD, getElem?_dataBits b hi, Option.getD_some]
    exact BitVec.getLsbD_ofBoolListLE.trans hbit

theorem sampleChar_charBits (gap : Gap) (b : Byte) : sampleChar gap (charBits b) = some ⟨gap, b, evenParity b, true⟩ :=
  congrArg (fun d => some (⟨gap, d, evenParity b, true⟩ : RxChar)) (ofBoolListLE_dataBits b)

/-- A character is bad exactly when its parity or its stop bit is not the one sent (40 R181). -/
theorem RxChar.bad_eq_false_iff (c : RxChar) : c.bad = false ↔ c.parity = evenParity c.data ∧ c.stop = true := by
  simp [RxChar.bad]

theorem RxChar.bad_eq_true_iff (c : RxChar) : c.bad = true ↔ c.parity ≠ evenParity c.data ∨ c.stop = false := by
  simp [RxChar.bad]

/-! Frame delimitation (40 R180, R181). -/

theorem firstFrame_of_no_silence {before : List RxChar} (cs : List RxChar) (h : ∀ d ∈ before, d.gap ≠ .silence) :
    firstFrame (before ++ cs) = firstFrame cs := by
  induction before with
  | nil => rfl
  | cons d before ih =>
    obtain ⟨hd, hbefore⟩ := List.forall_mem_cons.mp h
    rw [List.cons_append, firstFrame_skip _ hd, ih hbefore]

/-- A frame reaches from a silence to the next one. -/
theorem firstFrame_between_silences {c : RxChar} {cs after : List RxChar} (hc : c.gap = .silence)
    (hcs : ∀ d ∈ cs, d.gap ≠ .silence) (hafter : ∀ d, after.head? = some d → d.gap = .silence) :
    firstFrame (c :: (cs ++ after)) = c :: cs := by
  have hrest : after.takeWhile (fun d => d.gap != .silence) = [] := by
    cases after with
    | nil => rfl
    | cons d after => simp [hafter d rfl]
  rw [firstFrame_start _ hc, List.takeWhile_append_of_pos (by simpa using hcs), hrest, List.append_nil]

theorem frameRxErr_eq_true_iff (c : RxChar) (cs : List RxChar) :
    frameRxErr (c :: cs) = true ↔ (c.bad = true ∨ ∃ d ∈ cs, d.bad = true ∨ d.gap = .broken) := by
  simp [frameRxErr]

theorem receiveChars_of_firstFrame {stream : List RxChar} {c : RxChar} {cs : List RxChar} (h : firstFrame stream = c :: cs) :
    receiveChars stream = .frame c.data (cs.map RxChar.data) (frameRxErr (c :: cs)) := by
  rw [receiveChars, h]

theorem receiveChars_of_no_frame {stream : List RxChar} (h : firstFrame stream = []) : receiveChars stream = .timeout := by
  rw [receiveChars, h]

theorem receiveChars_between_silences {before after cs : List RxChar} {c : RxChar}
    (hbefore : ∀ d ∈ before, d.gap ≠ .silence) (hc : c.gap = .silence) (hcs : ∀ d ∈ cs, d.gap ≠ .silence)
    (hafter : ∀ d, after.head? = some d → d.gap = .silence) :
    receiveChars (before ++ c :: cs ++ after) = .frame c.data (cs.map RxChar.data) (frameRxErr (c :: cs)) := by
  apply receiveChars_of_firstFrame
  rw [List.append_assoc, firstFrame_of_no_silence _ hbefore, List.cons_append, firstFrame_between_silences hc hcs hafter]

/-- The character a byte is received as, when it is sent without error. -/
def goodChar (gap : Gap) (b : Byte) : RxChar := ⟨gap, b, evenParity b, true⟩

theorem goodChar_bad (gap : Gap) (b : Byte) : (goodChar gap b).bad = false :=
  (RxChar.bad_eq_false_iff _).mpr ⟨rfl, rfl⟩

theorem sentChars_cons (b : Byte) (bs : List Byte) :
    sentChars (b :: bs) = goodChar .silence b :: bs.map (goodChar .within) := rfl

theorem frameRxErr_sentChars (b : Byte) (bs : List Byte) : frameRxErr (sentChars (b :: bs)) = false := by
  rw [sentChars_cons, ← Bool.not_eq_true, frameRxErr_eq_true_iff]
  rintro (hfirst | ⟨d, hd, hbad | hgap⟩)
  · simp [goodChar_bad] at hfirst
  · obtain ⟨c, -, rfl⟩ := List.mem_map.mp hd
    simp [goodChar_bad] at hbad
  · obtain ⟨c, -, rfl⟩ := List.mem_map.mp hd
    cases hgap

/-- A burst is one frame of good characters (40 R177). -/
theorem receiveChars_sentChars (b : Byte) (bs : List Byte) : receiveChars (sentChars (b :: bs)) = .frame b bs false := by
  have hdata : (bs.map (goodChar .within)).map RxChar.data = bs :=
    List.map_map.trans (List.map_id bs)
  have hwithin : ∀ d ∈ bs.map (goodChar .within), d.gap ≠ .silence := by simp [goodChar]
  have hframe := receiveChars_between_silences (before := []) (c := goodChar .silence b) (after := [])
    (by simp) rfl hwithin (by simp)
  rwa [List.append_nil, List.nil_append, hdata, ← sentChars_cons, frameRxErr_sentChars] at hframe

end Sys2Proof.Machine

namespace Sys2Proof.Proofs

open Sys2Proof.Machine

/-- Settles O59: the first frame of a stream reaches from a silence to the next, and a burst is one frame of good
characters. -/
theorem sentFramesAreReceived : Obligations.SentFramesAreReceived := by
  refine ⟨receiveChars_sentChars, fun before c cs after hbefore hc hcs hafter => ?_, fun cs hcs => ?_⟩
  · exact ⟨_, receiveChars_between_silences hbefore hc hcs hafter, frameRxErr_eq_true_iff c cs⟩
  · have hnone := firstFrame_of_no_silence [] hcs
    rw [List.append_nil] at hnone
    exact receiveChars_of_no_frame hnone

/-- Settles O58: the eleven bits are read off `charBits`, and the eight data bits make the byte again. -/
theorem charactersAre8E1 : Obligations.CharactersAre8E1 := by
  intro b gap
  refine ⟨charBits_length b, rfl, rfl, fun i hi => ?_, count_dataBits_evenParity b, sampleChar_charBits gap b,
    (RxChar.bad_eq_false_iff _).mpr ⟨rfl, rfl⟩, fun st => ?_, fun p => ?_⟩
  · exact (List.getElem?_append_left (Nat.succ_lt_succ hi)).trans (getElem?_dataBits b hi)
  · simp [RxChar.bad_eq_true_iff]
  · simp [RxChar.bad_eq_true_iff]

end Sys2Proof.Proofs
end

section
/-! What the commands of the Transport leave alone: the poll cycle's registers (41 R211, R222, R231, R240, 44 R343),
and, but for READ_REGS, its results (10 R37, R38). -/

namespace Sys2Proof.Machine

/-- `t` holds CYCLE_RESULT and the results of READ_REGS as `s` does. -/
def SameResults (s t : State) : Prop := t.cycle = s.cycle ∧ t.res = s.res ∧ t.resLen = s.resLen

/-- An update of other fields is the same state to this relation, by definition. -/
theorem SameResults.refl (s : State) : SameResults s s := ⟨rfl, rfl, rfl⟩

theorem connectBody_sameResults (g : LinkCfg) (s : State) : SameResults s (connectBody g s) := by
  rcases connectBody_cases g s with ⟨-, h⟩ | ⟨-, -, h⟩ | ⟨-, -, -, ⟨-, h⟩ | ⟨-, h⟩ | ⟨-, h⟩⟩ <;> rw [h] <;>
    exact SameResults.refl s

theorem writeRegBody_sameResults (a v : Word) (s : State) : SameResults s (writeRegBody a v s) := by
  rcases writeRegBody_cases a v s with ⟨-, h⟩ | ⟨-, -, h⟩ | ⟨-, -, h⟩ <;> rw [h] <;> exact SameResults.refl s

theorem teardownBody_sameResults (s : State) : SameResults s (teardownBody s) := by
  rcases teardownBody_cases s with ⟨-, h⟩ | ⟨-, h⟩ <;> rw [h] <;> exact SameResults.refl s

theorem readRegsBody_cycle (n : BitVec 8) (a : Word) (s : State) : (readRegsBody n a s).cycle = s.cycle := by
  rcases readRegsBody_cases n a s with ⟨-, h⟩ | ⟨-, -, h⟩ | ⟨-, -, ⟨ws, -, -, h⟩ | ⟨-, h⟩⟩ <;> rw [h] <;> rfl

/-- READ_REGS alone of the Transport commands writes its results, and it keeps CYCLE_RESULT. -/
theorem body_results {i : Instr} (hi : i ≠ .pollCycle) (s : State) :
    (body i s).cycle = s.cycle ∧
      ((∀ n a, i ≠ .readRegs n a) → (body i s).res = s.res ∧ (body i s).resLen = s.resLen) := by
  cases i with
  | connect b sl v =>
    obtain ⟨hcycle, hres⟩ := connectBody_sameResults ⟨b, sl, v⟩ s
    exact ⟨hcycle, fun _ => hres⟩
  | readRegs n a => exact ⟨readRegsBody_cycle n a s, fun h => absurd rfl (h n a)⟩
  | writeReg a v =>
    obtain ⟨hcycle, hres⟩ := writeRegBody_sameResults a v s
    exact ⟨hcycle, fun _ => hres⟩
  | pollCycle => exact absurd rfl hi
  | teardown =>
    obtain ⟨hcycle, hres⟩ := teardownBody_sameResults s
    exact ⟨hcycle, fun _ => hres⟩

end Sys2Proof.Machine

namespace Sys2Proof.Proofs

open Sys2Proof.Machine

/-- Settles O24: a step that moves one of these registers runs a command, and every one but POLL_CYCLE keeps them. -/
theorem onlyPollCycleWritesTheSample : Obligations.OnlyPollCycleWritesTheSample := by
  intro s t h hr hne
  have hmoved : ¬ SamePoll s t := by simpa only [SamePoll, not_and_or] using hne
  rcases step_cases_of_noReset h hr with ⟨-, hsame⟩ | ⟨hbusy, i, a, hdecode, rfl⟩
  · exact absurd hsame hmoved
  · have hi : i = .pollCycle := by_contra fun hi => hmoved (body_samePoll hi (s.withAgenda a))
    exact ⟨hbusy, hi ▸ hdecode⟩

/-- Settles O35: the frame of each body, command by command. -/
theorem transportCommandsKeepThePollState : Obligations.TransportCommandsKeepThePollState := by
  intro i s hi
  obtain ⟨hsample, hvalid, htally, hfault, hcount, hcode, htrace⟩ := body_samePoll hi s
  obtain ⟨hcycle, hres⟩ := body_results hi s
  exact ⟨body i s, exec_eq i s, htally, hsample, hvalid, hcycle, hfault, htrace, hcount, hcode, hres⟩

end Sys2Proof.Proofs
end

section
/-! CONNECT and TEARDOWN (41 R211, R212, R240): the state each way through the body leaves. -/

namespace Sys2Proof.Machine

/-- The completion cause of a draw (41 R211). -/
def drawCause : ConnectDraw → Cause
  | .ok => .ok
  | .openFailed => .openFailed
  | .linkFailed => .linkFailed

theorem drawCause_eq_ok_iff (d : ConnectDraw) : drawCause d = .ok ↔ d = .ok := by cases d <;> simp [drawCause]

theorem exists_drawCause_eq_iff (c : Cause) :
    (∃ d, drawCause d = c) ↔ c = .ok ∨ c = .openFailed ∨ c = .linkFailed := by
  constructor
  · rintro ⟨d, rfl⟩
    cases d <;> simp [drawCause]
  · rintro (rfl | rfl | rfl)
    exacts [⟨.ok, rfl⟩, ⟨.openFailed, rfl⟩, ⟨.linkFailed, rfl⟩]

/-- The state a CONNECT that passes its checks leaves, by its draw. -/
def afterDraw (g : LinkCfg) (s : State) : ConnectDraw → State
  | .ok => complete .ok (openLink g (s.setEnv s.env.drawn))
  | .openFailed => complete .openFailed (s.setEnv s.env.drawn)
  | .linkFailed => complete .linkFailed (s.setEnv s.env.drawn)

section
variable (g : LinkCfg) (s : State) (d : ConnectDraw)

@[simp] theorem afterDraw_busy : (afterDraw g s d).busy = false := by cases d <;> rfl

@[simp] theorem afterDraw_done : (afterDraw g s d).status.done = true := by cases d <;> rfl

@[simp] theorem afterDraw_cause : (afterDraw g s d).status.cause = drawCause d := by cases d <;> rfl

@[simp] theorem afterDraw_sent : (afterDraw g s d).env.sent = s.env.sent := by cases d <;> rfl

theorem afterDraw_linkcfg : (afterDraw g s d).linkcfg = if d = .ok then g else s.linkcfg := by cases d <;> rfl

end

section
variable {g : LinkCfg} {s : State}

theorem afterDraw_link_iff (hclosed : s.link = .disconnected) (d : ConnectDraw) :
    (afterDraw g s d).link = .connected ↔ d = .ok := by
  cases d <;> simp [afterDraw, hclosed]

theorem connectBody_of_open (hopen : s.link = .connected) : connectBody g s = complete .alreadyConnected s :=
  if_pos ((connected_eq_true_iff s).mpr hopen)

theorem connectBody_of_illegal (hclosed : s.link = .disconnected) (hg : g.baud = 7 ∨ g.slave = 0) :
    connectBody g s = complete .cfgInvalid s := by
  have hlink := (connected_eq_false_iff s).mpr hclosed
  rw [connectBody, hlink, if_neg Bool.false_ne_true, if_pos hg]

theorem connectBody_of_legal (hclosed : s.link = .disconnected) (hbaud : g.baud ≠ 7) (hslave : g.slave ≠ 0) :
    connectBody g s = afterDraw g s (nextDraw s) := by
  have hlink := (connected_eq_false_iff s).mpr hclosed
  rw [connectBody, hlink, if_neg Bool.false_ne_true, if_neg (not_or.mpr ⟨hbaud, hslave⟩)]
  cases nextDraw s <;> rfl

end

theorem exec_of_body {i : Instr} {s t : State} (h : body i s = t) : exec i s = .next t :=
  (exec_eq i s).trans (congrArg _ h)

theorem exec_connect_of_draw {b : BitVec 3} {sl : BitVec 5} {v : Bool} {s : State} {d : ConnectDraw}
    (hclosed : s.link = .disconnected) (hbaud : b ≠ 7) (hslave : sl ≠ 0) (hd : nextDraw s = d) :
    exec (.connect b sl v) s = .next (afterDraw ⟨b, sl, v⟩ s d) :=
  exec_of_body (hd ▸ connectBody_of_legal hclosed hbaud hslave)

/-- `s` with the draws of its next CONNECTs scripted (41 R212, log 4). -/
def State.withConnectScript (s : State) (ds : List ConnectDraw) : State :=
  s.setEnv { s.env with connectScript := ds }

theorem nextDraw_withConnectScript (s : State) (d : ConnectDraw) (ds : List ConnectDraw) :
    nextDraw (s.withConnectScript (d :: ds)) = d := rfl

/-- On a closed link TEARDOWN writes LINK as it is. -/
theorem teardownBody_eq (s : State) : teardownBody s = complete .ok (s.setLink .disconnected) := by
  rcases teardownBody_cases s with ⟨hclosed, h⟩ | ⟨-, h⟩
  · rw [h, ← (connected_eq_false_iff s).mp hclosed]
    rfl
  · exact h

end Sys2Proof.Machine

namespace Sys2Proof.Proofs

open Sys2Proof.Machine

/-- Settles O29: the two checks, and then the state of the draw. -/
theorem connectOpensTheLinkOrSaysWhyNot : Obligations.ConnectOpensTheLinkOrSaysWhyNot := by
  intro b sl v s
  refine ⟨fun hopen => exec_of_body (connectBody_of_open hopen),
    fun hclosed hg => exec_of_body (connectBody_of_illegal hclosed hg), fun hclosed hbaud hslave => ?_⟩
  exact ⟨exec_connect_of_draw hclosed hbaud hslave, exec_connect_of_draw hclosed hbaud hslave,
    exec_connect_of_draw hclosed hbaud hslave⟩

/-- Settles O30: the state of each draw, and a script of one draw for each cause. -/
theorem connectAdmitsEveryOutcome : Obligations.ConnectAdmitsEveryOutcome := by
  intro b sl v s hclosed hbaud hslave
  refine ⟨⟨afterDraw ⟨b, sl, v⟩ s (nextDraw s), exec_connect_of_draw hclosed hbaud hslave rfl, afterDraw_busy _ _ _,
    afterDraw_done _ _ _, afterDraw_sent _ _ _, ?_, afterDraw_link_iff hclosed _, afterDraw_linkcfg _ _ _⟩, ?_⟩
  · rw [afterDraw_cause]
    cases nextDraw s <;> rfl
  · intro c hc
    obtain ⟨d, rfl⟩ := (exists_drawCause_eq_iff c).mpr hc
    have hlink : (afterDraw ⟨b, sl, v⟩ (s.withConnectScript [d]) d).link = .connected ↔ d = .ok :=
      afterDraw_link_iff (s := s.withConnectScript [d]) hclosed d
    exact ⟨[d], _, exec_connect_of_draw hclosed hbaud hslave (nextDraw_withConnectScript s d []),
      afterDraw_cause _ _ _, hlink.trans (drawCause_eq_ok_iff d).symm, afterDraw_sent _ (s.withConnectScript [d]) _⟩

/-- Settles O34: TEARDOWN closes the link, which on a closed link changes nothing. -/
theorem teardownReleasesTheLink : Obligations.TeardownReleasesTheLink :=
  fun s => exec_of_body (teardownBody_eq s)

end Sys2Proof.Proofs
end

section
/-! READ_REGS and WRITE_REG (41 R220, R221, R230): the request each sends, and the state each way through its body
leaves. -/

namespace Sys2Proof.Machine

/-! The requests, byte by byte (40 R175), and what the verdict on their answer leaves. -/

theorem readRequest_eq_frame8 (s : State) (a : Word) (n : BitVec 8) :
    readRequest s a n.toNat = Claims.frame8 s 0x03 a (n.setWidth 16) := by
  rw [readRequest, BitVec.ofNat_toNat]
  rfl

theorem writeRequest_eq_frame8 (s : State) (a x : Word) : writeRequest s a x = Claims.frame8 s 0x06 a x := rfl

/-- A transaction answered `OK` leaves the transaction fields at OK and 0 (40 R184). -/
theorem transact_of_ok {s : State} {req : List Byte} {ws : List Word} (h : nextVerdict s req = .ok ws) :
    transact s req = (s.setEnv (s.env.transacted req)).setStatus (xferFlags .ok 0 s.status) := by
  rw [transact, h]
  rfl

/-- A read answered `OK` carries the requested number of words (20 R107). -/
theorem length_of_readRequest_ok {s : State} {a : Word} {n : BitVec 8} {ws : List Word}
    (h : nextVerdict s (readRequest s a n.toNat) = .ok ws) : ws.length = n.toNat := by
  have hn : n.toNat < 2 ^ 16 := n.isLt.trans (by decide)
  rw [validate_ok_length rfl h, readRequest, build, requestFrame_count, BitVec.toNat_ofNat, Nat.mod_eq_of_lt hn]

theorem storeRes_of_length {ws : List Word} {n : BitVec 8} (h : ws.length = n.toNat) (s : State) :
    storeRes ws s = (s.setRes (ws ++ s.res.drop n.toNat)).setResLen n := by
  rw [storeRes, h, BitVec.ofNat_toNat, BitVec.setWidth_eq]

/-! The ways through READ_REGS (41 R220, R221). -/

theorem countInRange_eq_true_iff (s : State) (n : Nat) :
    countInRange s n = true ↔ 1 ≤ n ∧ n ≤ s.params.maxBlock := by simp [countInRange]

section
variable {n : BitVec 8} {a : Word} {s : State}

theorem readRegsBody_of_closed (hclosed : s.link = .disconnected) :
    readRegsBody n a s = readFailed .notConnected s := by
  rw [readRegsBody, (connected_eq_false_iff s).mpr hclosed]
  rfl

theorem readRegsBody_of_count_out_of_range (hopen : s.link = .connected)
    (hn : n.toNat < 1 ∨ s.params.maxBlock < n.toNat) : readRegsBody n a s = readFailed .countRange s := by
  have hcount : countInRange s n.toNat = false := by
    rw [← Bool.not_eq_true, countInRange_eq_true_iff]
    omega
  rw [readRegsBody, (connected_eq_true_iff s).mpr hopen, hcount]
  rfl

theorem readRegsBody_of_ok {ws : List Word} (hopen : s.link = .connected) (hmin : 1 ≤ n.toNat)
    (hmax : n.toNat ≤ s.params.maxBlock) (hv : nextVerdict s (readRequest s a n.toNat) = .ok ws) :
    readRegsBody n a s = complete .ok (storeRes ws (transact s (readRequest s a n.toNat))) := by
  rw [readRegsBody, (connected_eq_true_iff s).mpr hopen, (countInRange_eq_true_iff s _).mpr ⟨hmin, hmax⟩, hv]
  rfl

theorem readRegsBody_of_not_ok (hopen : s.link = .connected) (hmin : 1 ≤ n.toNat) (hmax : n.toNat ≤ s.params.maxBlock)
    (hv : ∀ ws, nextVerdict s (readRequest s a n.toNat) ≠ .ok ws) :
    readRegsBody n a s = readFailed .xferFailed (transact s (readRequest s a n.toNat)) := by
  rw [readRegsBody, (connected_eq_true_iff s).mpr hopen, (countInRange_eq_true_iff s _).mpr ⟨hmin, hmax⟩]
  cases hverdict : nextVerdict s (readRequest s a n.toNat) with
  | ok ws => exact absurd hverdict (hv ws)
  | slaveException e => rfl
  | failed c => rfl

end

/-! The ways through WRITE_REG (41 R230). -/

theorem writeSucceeds_eq_true_iff (s : State) (a x : Word) :
    writeSucceeds s a x = true ↔ nextVerdict s (writeRequest s a x) = .ok [] := by
  rw [writeSucceeds, beq_iff_eq]

section
variable {a x : Word} {s : State}

theorem writeRegBody_of_closed (hclosed : s.link = .disconnected) :
    writeRegBody a x s = complete .notConnected s := by
  rw [writeRegBody, (connected_eq_false_iff s).mpr hclosed]
  rfl

theorem writeRegBody_of_ok (hopen : s.link = .connected) (hv : nextVerdict s (writeRequest s a x) = .ok []) :
    writeRegBody a x s =
      complete .ok ((writeRegister s a x).setStatus (writeOkFlags (writeRegister s a x).status)) := by
  rw [writeRegBody, (connected_eq_true_iff s).mpr hopen, (writeSucceeds_eq_true_iff s a x).mpr hv]
  rfl

theorem writeRegBody_of_not_ok (hopen : s.link = .connected) (hv : nextVerdict s (writeRequest s a x) ≠ .ok []) :
    writeRegBody a x s = complete .xferFailed (writeRegister s a x) := by
  have hfails : writeSucceeds s a x = false := Bool.eq_false_iff.mpr (mt (writeSucceeds_eq_true_iff s a x).mp hv)
  rw [writeRegBody, (connected_eq_true_iff s).mpr hopen, hfails]
  rfl

end

/-! The host's view of RES (10 R33, R38). -/

theorem readReg_res_congr {s t : State} {i : Nat} (hparams : t.params = s.params) (h : resWord t i = resWord s i) :
    readReg t (32 + i) = readReg s (32 + i) := by
  rw [readReg_of_ge t (by omega), readReg_of_ge s (by omega), hparams, Nat.add_sub_cancel_left, h]

theorem readReg_complete_res (c : Cause) (s : State) (i : Nat) : readReg (complete c s) (32 + i) = readReg s (32 + i) :=
  readReg_res_congr rfl rfl

theorem readReg_transact_res (s : State) (req : List Byte) (i : Nat) :
    readReg (transact s req) (32 + i) = readReg s (32 + i) :=
  readReg_res_congr rfl rfl

theorem readReg_storeRes_lt {s : State} {ws : List Word} {i : Nat} (h : i < ws.length) (hi : i < s.params.maxBlock) :
    readReg (storeRes ws s) (32 + i) = (ws.getD i 0).setWidth 64 :=
  (readReg_res (storeRes ws s) hi).trans (congrArg (BitVec.setWidth 64) (storeRes_getD_lt h))

theorem readReg_storeRes_ge {s : State} {ws : List Word} {i : Nat} (h : ws.length ≤ i) :
    readReg (storeRes ws s) (32 + i) = readReg s (32 + i) :=
  readReg_res_congr rfl (storeRes_getD_ge h)

/-- A scripted response of as many registers as the request asks for is answered `OK` (40 R182, 30 R132). -/
theorem verdict_of_scripted_readResponse {s : State} {n : BitVec 8} {ws : List Word} {rest : List RxOutcome} (a : Word)
    (hn : n.toNat ≤ 125) (hlen : ws.length = n.toNat)
    (hscript : s.env.rxScript =
      received (readResponse s.params.crcProfile (s.linkcfg.slave.setWidth 8) ws) :: rest) :
    nextVerdict s (readRequest s a n.toNat) = .ok ws := by
  have houtcome : outcomeAt s 0 (readRequest s a n.toNat) =
      received (readResponse s.params.crcProfile (slaveByte s) ws) := by
    rw [outcomeAt, hscript]
    rfl
  rw [nextVerdict, houtcome]
  exact (Proofs.readIsOkExactlyOnItsResponse s.params.crcProfile (slaveByte s) a n.toNat _ ws hn).mpr ⟨hlen, rfl⟩

end Sys2Proof.Machine

namespace Sys2Proof.Proofs

open Sys2Proof.Machine

/-- Settles O31: the two checks, and then the store or the failure by the verdict on the one transaction. -/
theorem readRegsReadsOnceAndStoresWhole : Obligations.ReadRegsReadsOnceAndStoresWhole := by
  intro n a s
  refine ⟨fun hclosed => exec_of_body (readRegsBody_of_closed hclosed),
    fun hopen hn => exec_of_body (readRegsBody_of_count_out_of_range hopen hn), fun hopen hmin hmax => ?_⟩
  rw [← readRequest_eq_frame8]
  refine ⟨fun ws hv => ?_, fun hv => exec_of_body (readRegsBody_of_not_ok hopen hmin hmax hv)⟩
  have hlen := length_of_readRequest_ok hv
  refine ⟨hlen, exec_of_body ((readRegsBody_of_ok hopen hmin hmax hv).trans ?_)⟩
  rw [storeRes_of_length hlen, transact_of_ok hv]
  rfl

/-- Settles O32: the response is answered `OK` with its words, and the words are stored at the start of RES. -/
theorem readRegsReturnsTheSlavesRegisters : Obligations.ReadRegsReturnsTheSlavesRegisters := by
  intro n a s ws rest hopen hmin hmax hblock hlen hscript
  have hv := verdict_of_scripted_readResponse a (hmax.trans hblock) hlen hscript
  have hbody := readRegsBody_of_ok hopen hmin hmax hv
  refine ⟨_, exec_of_body hbody, rfl, ?_, fun i hi => ?_, fun i hi => ?_, ?_⟩
  · rw [storeRes_of_length hlen]
    rfl
  · rw [readReg_complete_res, readReg_storeRes_lt (hlen ▸ hi)]
    exact hi.trans_le hmax
  · rw [readReg_complete_res, readReg_storeRes_ge (hlen ▸ hi), readReg_transact_res]
  · rw [← readRequest_eq_frame8]
    rfl

/-- Settles O33: the check of the link, and then the completion by the verdict on the one transaction. -/
theorem writeRegWritesOnce : Obligations.WriteRegWritesOnce := by
  intro a x s
  refine ⟨fun hclosed => exec_of_body (writeRegBody_of_closed hclosed), fun hopen => ?_⟩
  refine ⟨fun hv => exec_of_body ((writeRegBody_of_ok hopen hv).trans ?_),
    fun hv => exec_of_body (writeRegBody_of_not_ok hopen hv)⟩
  rw [writeRegister, writeRequest_eq_frame8, transact_of_ok hv]
  rfl

end Sys2Proof.Proofs
end

section
/-! The Decoder's numeric views (42 R262, R266, R267): the signed speed, the tenths of the torque, and their binary64
images. Every binary64 number is a multiple of the spacing at a given exponent or lies below the numbers of that
exponent; a significand less than half a spacing from a value among them is therefore the nearest of all. -/

namespace Sys2Proof.Machine

/-! Binary64 (92 D25). -/

theorem f64Value_zero : f64Value 0 = 0 := by simp [f64Value]

/-- The distance of neighbouring numbers whose exponent field is `e`. -/
def f64Spacing (e : Nat) : Rat := 2 ^ ((e : Int) - 1075)

theorem f64Spacing_pos (e : Nat) : 0 < f64Spacing e := zpow_pos two_pos _

theorem f64Spacing_add (e k : Nat) : f64Spacing (e + k) = 2 ^ k * f64Spacing e := by
  have hexp : ((e + k : Nat) : Int) - 1075 = k + (e - 1075) := by omega
  rw [f64Spacing, hexp, zpow_add₀ two_ne_zero, zpow_natCast, f64Spacing]

theorem two_pow_mul_f64Spacing {e k : Nat} (h : e + k = 1075) : 2 ^ k * f64Spacing e = 1 := by
  rw [← f64Spacing_add, h, f64Spacing]
  norm_num

theorem f64Spacing_mono {e e' : Nat} (h : e ≤ e') : f64Spacing e ≤ f64Spacing e' :=
  zpow_le_zpow_right₀ one_le_two (by omega)

/-- The value of a normal number given by its three fields. -/
theorem f64Value_ofNat_fields (neg : Bool) {e f : Nat} (he : 0 < e) (he' : e < 2 ^ 11) (hf : f < 2 ^ 52) :
    f64Value (BitVec.ofNat 64 ((if neg then 2 ^ 63 else 0) + e * 2 ^ 52 + f)) =
      (if neg then -1 else 1) * (((2 ^ 52 + f : Nat) : Rat) * f64Spacing e) := by
  have hbits : (BitVec.ofNat 64 ((if neg then 2 ^ 63 else 0) + e * 2 ^ 52 + f)).toNat =
      (if neg then 2 ^ 63 else 0) + e * 2 ^ 52 + f := by
    rw [BitVec.toNat_ofNat, Nat.mod_eq_of_lt]
    split <;> omega
  generalize BitVec.ofNat 64 _ = b at hbits ⊢
  have hexp : (b.extractLsb' 52 11).toNat = e := by
    rw [BitVec.extractLsb'_toNat, hbits, Nat.shiftRight_eq_div_pow]
    split <;> omega
  have hfrac : (b.extractLsb' 0 52).toNat = f := by
    rw [BitVec.extractLsb'_toNat, hbits, Nat.shiftRight_zero]
    split <;> omega
  have hsign : b.msb = neg := by
    rw [BitVec.msb_eq_decide, hbits]
    cases neg <;> simp <;> omega
  rw [f64Value, hexp, hfrac, hsign, if_neg he.ne', f64Spacing]

/-- The value of the sum of the fields, a significand of 2^53 carried into the exponent included. -/
theorem f64Value_ofNat_significand (neg : Bool) {e sig : Nat} (he : 0 < e) (he' : e + 1 < 2 ^ 11)
    (hlow : 2 ^ 52 ≤ sig) (hhigh : sig ≤ 2 ^ 53) :
    f64Value (BitVec.ofNat 64 ((if neg then 2 ^ 63 else 0) + e * 2 ^ 52 + (sig - 2 ^ 52))) =
      (if neg then -1 else 1) * ((sig : Rat) * f64Spacing e) := by
  obtain hlt | rfl := hhigh.lt_or_eq
  · rw [f64Value_ofNat_fields neg he (by omega) (by omega), Nat.add_sub_cancel' hlow]
  · have hcarry : e * 2 ^ 52 + (2 ^ 53 - 2 ^ 52) = (e + 1) * 2 ^ 52 + 0 := by omega
    rw [Nat.add_assoc, hcarry, ← Nat.add_assoc, f64Value_ofNat_fields neg (Nat.add_pos_left he 1) he' (by decide),
      f64Spacing_add]
    push_cast
    ring

/-- Every value is a 53-bit integer times a power of 2, the subnormal numbers with the exponent field taken as 1. -/
theorem f64Value_eq_int_mul_spacing (b : BitVec 64) :
    ∃ (z : Int) (e : Nat), |z| < 2 ^ 53 ∧ f64Value b = z * f64Spacing e := by
  have hfrac : (b.extractLsb' 0 52).toNat < 2 ^ 52 := (b.extractLsb' 0 52).isLt
  have signed (m e : Nat) (hm : m < 2 ^ 53) : ∃ (z : Int) (e' : Nat), |z| < 2 ^ 53 ∧
      (if b.msb then -1 else 1 : Rat) * (m * f64Spacing e) = z * f64Spacing e' := by
    refine ⟨if b.msb then -m else m, e, ?_, ?_⟩
    · split <;> simp <;> exact_mod_cast hm
    · split <;> simp
  rw [f64Value]
  by_cases hsub : (b.extractLsb' 52 11).toNat = 0
  · rw [if_pos hsub]
    exact signed (b.extractLsb' 0 52).toNat 1 (by omega)
  · rw [if_neg hsub]
    exact signed (2 ^ 52 + (b.extractLsb' 0 52).toNat) (b.extractLsb' 52 11).toNat (by omega)

/-- At each exponent, a value is a multiple of the spacing there or is below the numbers of that exponent. -/
theorem f64Value_multiple_or_below (b : BitVec 64) (e : Nat) :
    (∃ z : Int, f64Value b = z * f64Spacing e) ∨ |f64Value b| < 2 ^ 52 * f64Spacing e := by
  obtain ⟨z, e', hz, hv⟩ := f64Value_eq_int_mul_spacing b
  obtain hle | hlt := le_or_gt e e'
  · refine .inl ⟨z * 2 ^ (e' - e), ?_⟩
    rw [hv, ← Nat.add_sub_cancel' hle, f64Spacing_add, Nat.add_sub_cancel_left]
    push_cast
    ring
  · right
    have hz' : |(z : Rat)| < 2 ^ 53 := by exact_mod_cast hz
    calc |f64Value b| = |(z : Rat)| * f64Spacing e' := by rw [hv, abs_mul, abs_of_pos (f64Spacing_pos e')]
      _ < 2 ^ 53 * f64Spacing e' := mul_lt_mul_of_pos_right hz' (f64Spacing_pos e')
      _ = 2 ^ 52 * f64Spacing (e' + 1) := by
          rw [f64Spacing_add]
          ring
      _ ≤ 2 ^ 52 * f64Spacing e := mul_le_mul_of_nonneg_left (f64Spacing_mono hlt) (by positivity)

/-- An integer less than a half away is nearer than every other integer. -/
theorem abs_sub_lt_abs_sub_of_ne {x : Rat} {m z : Int} (hm : |m - x| < 1 / 2) (hz : z ≠ m) : |m - x| < |z - x| := by
  have hgap : (1 : Rat) ≤ |(z : Rat) - m| := by exact_mod_cast Int.one_le_abs (sub_ne_zero.mpr hz)
  have htri := abs_sub_le (z : Rat) x m
  rw [abs_sub_comm x] at htri
  linarith

/-- An integer less than a half away is as near as every integer below. -/
theorem abs_sub_le_sub_of_le {x : Rat} {m z : Int} (hm : |m - x| < 1 / 2) (hz : z ≤ x) : |m - x| ≤ x - z := by
  rw [← abs_of_nonneg (sub_nonneg.mpr hz), abs_sub_comm x]
  by_cases heq : z = m
  · rw [heq]
  · exact (abs_sub_lt_abs_sub_of_ne hm heq).le

/-- A significand less than a half from a scaled value of at least 2^52 gives the nearest of all binary64 numbers. -/
theorem nearest_of_significand {b : BitVec 64} {e sig : Nat} {x : Rat} (hx : 2 ^ 52 ≤ x) (hsig : |sig - x| < 1 / 2)
    (hb : f64Value b ≠ sig * f64Spacing e) :
    |sig * f64Spacing e - x * f64Spacing e| < |f64Value b - x * f64Spacing e| := by
  have hpos := f64Spacing_pos e
  have hint : |((sig : Int) : Rat) - x| < 1 / 2 := by exact_mod_cast hsig
  rw [← sub_mul, abs_mul, abs_of_pos hpos]
  obtain ⟨z, hz⟩ | hlt := f64Value_multiple_or_below b e
  · have hne : z ≠ sig := by
      rintro rfl
      exact hb (by exact_mod_cast hz)
    rw [hz, ← sub_mul, abs_mul, abs_of_pos hpos]
    exact mul_lt_mul_of_pos_right (by exact_mod_cast abs_sub_lt_abs_sub_of_ne hint hne) hpos
  · have hsig' : |(sig : Rat) - x| ≤ x - 2 ^ 52 := by
      have hle : ((2 ^ 52 : Int) : Rat) ≤ x := by exact_mod_cast hx
      exact_mod_cast abs_sub_le_sub_of_le hint hle
    calc |(sig : Rat) - x| * f64Spacing e ≤ (x - 2 ^ 52) * f64Spacing e := mul_le_mul_of_nonneg_right hsig' hpos.le
      _ < x * f64Spacing e - f64Value b := by linarith [le_abs_self (f64Value b)]
      _ ≤ |f64Value b - x * f64Spacing e| := by
        rw [abs_sub_comm]
        exact le_abs_self _

/-! The speed view (42 R262). -/

theorem speedValue_eq_ite (raw : Word) :
    speedValue raw = if raw.toNat < 0x8000 then (raw.toNat : Int) else (raw.toNat : Int) - 65536 := by
  rw [speedValue, BitVec.toInt_eq_toNat_cond]
  split <;> split <;> omega

theorem speedValue_ofInt {v : Int} (hlow : -32768 ≤ v) (hhigh : v ≤ 32767) : speedValue (BitVec.ofInt 16 v) = v :=
  BitVec.toInt_ofInt_eq_self (by decide) hlow (by omega)

theorem speedValue_natAbs_le (raw : Word) : (speedValue raw).natAbs ≤ 32768 := by
  rw [speedValue_eq_ite]
  split <;> omega

theorem speedValue_eq_sign_mul_natAbs (raw : Word) :
    (speedValue raw : Rat) = (if raw.msb then -1 else 1) * ((speedValue raw).natAbs : Rat) := by
  have hsign : raw.msb = decide (speedValue raw < 0) := BitVec.msb_eq_toInt
  rw [hsign, Nat.cast_natAbs]
  by_cases hneg : speedValue raw < 0
  · simp [hneg, abs_of_neg hneg]
  · simp [hneg, abs_of_nonneg (not_lt.mp hneg)]

/-- The significand of an integer of at most 53 bits: shifted so that its leading bit is bit 52. -/
theorem significand_bounds {m : Nat} (hm : m ≠ 0) (hlog : m.log2 ≤ 52) :
    2 ^ 52 ≤ m * 2 ^ (52 - m.log2) ∧ m * 2 ^ (52 - m.log2) < 2 ^ 53 := by
  constructor
  · calc 2 ^ 52 = 2 ^ m.log2 * 2 ^ (52 - m.log2) := by rw [← pow_add, Nat.add_sub_cancel' hlog]
      _ ≤ m * 2 ^ (52 - m.log2) := Nat.mul_le_mul_right _ (Nat.log2_self_le hm)
  · calc m * 2 ^ (52 - m.log2) < 2 ^ (m.log2 + 1) * 2 ^ (52 - m.log2) :=
          Nat.mul_lt_mul_of_pos_right Nat.lt_log2_self (Nat.two_pow_pos _)
      _ = 2 ^ 53 := by rw [← pow_add]; congr 1; omega

theorem f64Value_speedFloat (raw : Word) : f64Value (speedFloat raw) = (speedValue raw : Rat) := by
  have hle := speedValue_natAbs_le raw
  rw [speedValue_eq_sign_mul_natAbs, speedFloat]
  generalize (speedValue raw).natAbs = m at *
  by_cases hm : m = 0
  · simpa [hm] using f64Value_zero
  · have hlog : m.log2 < 16 := (Nat.log2_lt hm).mpr (by omega)
    obtain ⟨hlow, hhigh⟩ := significand_bounds hm (by omega)
    simp only [hm, if_false]
    rw [f64Value_ofNat_significand _ (by omega) (by omega) hlow hhigh.le, Nat.cast_mul, Nat.cast_pow,
      Nat.cast_ofNat, mul_assoc (m : Rat), two_pow_mul_f64Spacing (by omega), mul_one]

/-! The torque view (42 R266, R267). -/

theorem torqueValue_mul_ten (raw : Word) : torqueValue raw * 10 = (raw.toNat : Rat) :=
  div_mul_cancel₀ _ (by norm_num)

/-- Where no tie occurs, rounding moves the quotient by less than a half. -/
theorem abs_roundHalfEven_sub_lt {n d : Nat} (hd : 0 < d) (htie : 2 * (n % d) ≠ d) :
    |(roundHalfEven n d : Rat) - n / d| < 1 / 2 := by
  have hd' : (0 : Rat) < d := by exact_mod_cast hd
  have hmod : n % d < d := Nat.mod_lt n hd
  have hquot : (n : Rat) / d = (n / d : Nat) + (n % d : Nat) / d := by
    rw [div_eq_iff hd'.ne', add_mul, div_mul_cancel₀ _ hd'.ne']
    exact_mod_cast (Nat.div_add_mod' n d).symm
  rw [hquot, roundHalfEven, abs_sub_lt_iff]
  split
  case isTrue hdown =>
    have hfrac : ((n % d : Nat) : Rat) / d < 1 / 2 := by
      rw [div_lt_div_iff₀ hd' two_pos]
      exact_mod_cast by omega
    have hpos : (0 : Rat) ≤ ((n % d : Nat) : Rat) / d := by positivity
    constructor <;> linarith
  case isFalse hnot =>
    have hup : d < 2 * (n % d) := by omega
    have hfrac : 1 / 2 < ((n % d : Nat) : Rat) / d := by
      rw [div_lt_div_iff₀ two_pos hd']
      exact_mod_cast by omega
    have hlt : ((n % d : Nat) : Rat) / d < 1 := (div_lt_one hd').mpr (by exact_mod_cast hmod)
    rw [if_pos hup]
    push_cast
    constructor <;> linarith

theorem tenthLog_le {n : Nat} (hn : n ≠ 0) (hn' : n < 65536) : tenthLog n ≤ 16 := by
  have hlt : tenthLog n < 17 := (Nat.log2_lt (by omega)).mpr (by omega)
  omega

/-- Ten times the quantity that `tenthSignificand` rounds. -/
def tenthScaled (n : Nat) : Nat := n * 2 ^ (56 - tenthLog n)

theorem tenthSignificand_eq (n : Nat) : tenthSignificand n = roundHalfEven (tenthScaled n) 10 := rfl

/-- What `tenthSignificand` rounds lies between 2^52 and 2^53. -/
theorem tenthScaled_bounds {n : Nat} (hn : n ≠ 0) (hn' : n < 65536) :
    10 * 2 ^ 52 ≤ tenthScaled n ∧ tenthScaled n < 10 * 2 ^ 53 := by
  have hk := tenthLog_le hn hn'
  have hlow : 2 ^ tenthLog n ≤ 16 * n / 10 := Nat.log2_self_le (by omega)
  have hhigh : 16 * n / 10 < 2 ^ (tenthLog n + 1) := Nat.lt_log2_self
  suffices h : 10 * 2 ^ 56 ≤ 16 * tenthScaled n ∧ 16 * tenthScaled n < 10 * 2 ^ 57 by omega
  rw [tenthScaled, ← Nat.mul_assoc]
  constructor
  · calc 10 * 2 ^ 56 = 10 * 2 ^ tenthLog n * 2 ^ (56 - tenthLog n) := by
          rw [Nat.mul_assoc, ← pow_add, Nat.add_sub_cancel' (by omega)]
      _ ≤ 16 * n * 2 ^ (56 - tenthLog n) := Nat.mul_le_mul_right _ (by omega)
  · calc 16 * n * 2 ^ (56 - tenthLog n) < 10 * 2 ^ (tenthLog n + 1) * 2 ^ (56 - tenthLog n) :=
          Nat.mul_lt_mul_of_pos_right (by omega) (Nat.two_pow_pos _)
      _ = 10 * 2 ^ 57 := by rw [Nat.mul_assoc, ← pow_add]; congr 2; omega

/-- No torque is a tie: the scaled word is even, and a tie of tenths would be odd. -/
theorem abs_tenthSignificand_sub_lt {n : Nat} (hn : n ≠ 0) (hn' : n < 65536) :
    |(tenthSignificand n : Rat) - (tenthScaled n : Rat) / 10| < 1 / 2 := by
  have hk := tenthLog_le hn hn'
  have heven : 2 ∣ tenthScaled n := Dvd.dvd.mul_left (dvd_pow_self 2 (by omega)) n
  rw [tenthSignificand_eq]
  exact abs_roundHalfEven_sub_lt (d := 10) (by decide) (by omega)

theorem tenthSignificand_bounds {n : Nat} (hn : n ≠ 0) (hn' : n < 65536) :
    2 ^ 52 ≤ tenthSignificand n ∧ tenthSignificand n ≤ 2 ^ 53 := by
  have hscaled := tenthScaled_bounds hn hn'
  rw [tenthSignificand_eq, roundHalfEven]
  split_ifs <;> omega

theorem f64Value_torqueFloat {raw : Word} (h : raw ≠ 0) :
    f64Value (torqueFloat raw) = (tenthSignificand raw.toNat : Rat) * f64Spacing (1019 + tenthLog raw.toNat) := by
  have hn : raw.toNat ≠ 0 := BitVec.toNat_ne_iff_ne.mpr h
  have hk := tenthLog_le hn raw.isLt
  obtain ⟨hlow, hhigh⟩ := tenthSignificand_bounds hn raw.isLt
  rw [torqueFloat, if_neg h]
  simpa using f64Value_ofNat_significand false (e := 1019 + tenthLog raw.toNat) (by omega) (by omega) hlow hhigh

theorem torqueValue_eq_scaled {raw : Word} (h : raw ≠ 0) :
    torqueValue raw = (tenthScaled raw.toNat : Rat) / 10 * f64Spacing (1019 + tenthLog raw.toNat) := by
  have hk := tenthLog_le (BitVec.toNat_ne_iff_ne.mpr h) raw.isLt
  rw [torqueValue, tenthScaled, Nat.cast_mul, Nat.cast_pow, Nat.cast_ofNat, mul_div_right_comm, mul_assoc,
    two_pow_mul_f64Spacing (by omega), mul_one]

end Sys2Proof.Machine

namespace Sys2Proof.Proofs

open Sys2Proof.Machine

/-- Settles O42: two's complement by cases on the sign, and a magnitude of 16 bits fits the significand. -/
theorem speedViewIsSignedAndExact : Obligations.SpeedViewIsSignedAndExact :=
  ⟨speedValue_eq_ite, fun _ => speedValue_ofInt, f64Value_speedFloat⟩

/-- Settles O43, by the bounds of a 16-bit word. -/
theorem torqueViewIsUnsignedTenths : Obligations.TorqueViewIsUnsignedTenths := by
  intro raw
  have hmax : (raw.toNat : Rat) ≤ 65535 := by exact_mod_cast Nat.le_of_lt_succ raw.isLt
  refine ⟨torqueValue_mul_ten raw, ?_, ?_⟩
  · exact div_nonneg (Nat.cast_nonneg _) (by norm_num)
  · exact div_le_div_of_nonneg_right hmax (by norm_num)

/-- Settles O44: the zero word is exact, and any other is rounded without a tie in the binade of its quotient. -/
theorem torqueFloatIsTheNearest : Obligations.TorqueFloatIsTheNearest := by
  intro raw b _ hb
  by_cases h : raw = 0
  · subst h
    have hvalue : torqueValue 0 = 0 := by simp [torqueValue]
    have hfloat : f64Value (torqueFloat 0) = 0 := f64Value_zero
    rw [hfloat] at hb
    rwa [hfloat, hvalue, sub_zero, sub_zero, abs_zero, abs_pos]
  · have hn : raw.toNat ≠ 0 := BitVec.toNat_ne_iff_ne.mpr h
    have hlow : (2 ^ 52 : Rat) ≤ (tenthScaled raw.toNat : Rat) / 10 := by
      rw [le_div_iff₀ (by norm_num), mul_comm]
      exact_mod_cast (tenthScaled_bounds hn raw.isLt).1
    rw [f64Value_torqueFloat h] at hb ⊢
    rw [torqueValue_eq_scaled h]
    exact nearest_of_significand hlow (abs_tenthSignificand_sub_lt hn raw.isLt) hb

end Sys2Proof.Proofs
end

section
/-! One attempt of a poll block, by the verdict on its request (43 R295 to R303): the state each way leaves. -/

namespace Sys2Proof.Machine

/-! The blocks that read the slave, and the request of each (43 R295). -/

theorem isDataBlock_speed : Claims.isDataBlock .speed := .inl rfl

theorem isDataBlock_torque : Claims.isDataBlock .torque := .inr (.inl rfl)

theorem isDataBlock_io : Claims.isDataBlock .io := .inr (.inr (.inl rfl))

theorem isDataBlock_err : Claims.isDataBlock .err := .inr (.inr (.inr rfl))

section
variable {b : Blk} {s : State}

theorem blockCount_pos_of_dataBlock (hb : Claims.isDataBlock b) : 0 < blockCount b := by
  rcases hb with rfl | rfl | rfl | rfl <;> decide

theorem blockCount_le_three (b : Blk) : blockCount b ≤ 3 := by cases b <;> decide

theorem countInRange_of_dataBlock (hb : Claims.isDataBlock b) (hmax : 3 ≤ s.params.maxBlock) :
    countInRange s (blockCount b) = true :=
  (countInRange_eq_true_iff s _).mpr ⟨blockCount_pos_of_dataBlock hb, (blockCount_le_three b).trans hmax⟩

theorem readRegisters_of_dataBlock (hb : Claims.isDataBlock b) (hmax : 3 ≤ s.params.maxBlock) :
    readRegisters s (blockAddr s.params b) (blockCount b) = transact s (Claims.blockRequest s b) :=
  if_pos (countInRange_of_dataBlock hb hmax)

theorem readWords_of_dataBlock (hb : Claims.isDataBlock b) (hmax : 3 ≤ s.params.maxBlock) :
    readWords s (blockAddr s.params b) (blockCount b) = (Claims.verdict s (Claims.blockRequest s b)).words :=
  if_pos (countInRange_of_dataBlock hb hmax)

/-- A response accepted for a block carries the block's count of words (20 R107). -/
theorem length_of_blockRequest_ok {ws : List Word} (hv : Claims.verdict s (Claims.blockRequest s b) = .ok ws) :
    ws.length = blockCount b := by
  have hcount : requestCount (Claims.blockRequest s b) = (BitVec.ofNat 16 (blockCount b)).toNat :=
    requestFrame_count s.params.crcProfile (slaveByte s) fcRead (blockAddr s.params b) _
  rw [validate_ok_length rfl hv, hcount]
  cases b <;> rfl

end

theorem Verdict.words_eq_nil {v : Verdict} (h : ∀ ws, v ≠ .ok ws) : v.words = [] := by
  cases v with
  | ok ws => exact absurd rfl (h ws)
  | slaveException e => rfl
  | failed c => rfl

/-- `s` with an attempt of a block counted and its one transaction made: what the store and the failure start from. -/
def asked (b : Blk) (s : State) : State :=
  transact (s.setCycle (setAttempts b (s.seq.att + 1) s.cycle)) (Claims.blockRequest s b)

/-- `s` after an attempt whose response was accepted, before the store (40 R184, 43 R295). -/
def answered (b : Blk) (s : State) : State :=
  { s with
    cycle := setAttempts b (s.seq.att + 1) s.cycle
    status := xferFlags .ok 0 s.status
    env := s.env.transacted (Claims.blockRequest s b) }

section
variable {b : Blk} {s : State}

theorem asked_of_ok {ws : List Word} (hv : Claims.verdict s (Claims.blockRequest s b) = .ok ws) :
    asked b s = answered b s :=
  transact_of_ok (s := s.setCycle (setAttempts b (s.seq.att + 1) s.cycle)) hv

/-- An attempt asks once, then stores or fails by the number of words it got (43 R295). The state that asks differs from
`s` in CYCLE_RESULT alone, so its verdict is the one `s` gives. -/
theorem attemptBlock_eq (hb : Claims.isDataBlock b) (hmax : 3 ≤ s.params.maxBlock) :
    attemptBlock b s =
      if (Claims.verdict s (Claims.blockRequest s b)).words.length = blockCount b then
        storeBlock b (Claims.verdict s (Claims.blockRequest s b)).words (asked b s)
      else failAttempt b (s.seq.att + 1) (asked b s) := by
  have hwords := readWords_of_dataBlock (s := s.setCycle (setAttempts b (s.seq.att + 1) s.cycle)) hb hmax
  have hread := readRegisters_of_dataBlock (s := s.setCycle (setAttempts b (s.seq.att + 1) s.cycle)) hb hmax
  simp only [attemptBlock, hwords, hread]
  rfl

theorem attemptBlock_of_ok {ws : List Word} (hb : Claims.isDataBlock b) (hmax : 3 ≤ s.params.maxBlock)
    (hv : Claims.verdict s (Claims.blockRequest s b) = .ok ws) : attemptBlock b s = storeBlock b ws (asked b s) := by
  rw [attemptBlock_eq hb hmax, hv]
  exact if_pos (length_of_blockRequest_ok hv)

theorem attemptBlock_of_not_ok (hb : Claims.isDataBlock b) (hmax : 3 ≤ s.params.maxBlock)
    (hv : ∀ ws, Claims.verdict s (Claims.blockRequest s b) ≠ .ok ws) :
    attemptBlock b s = failAttempt b (s.seq.att + 1) (asked b s) := by
  have hcount : ¬ ([] : List Word).length = blockCount b := (blockCount_pos_of_dataBlock hb).ne
  rw [attemptBlock_eq hb hmax, Verdict.words_eq_nil hv, if_neg hcount]

end

/-! One step of the cycle, by the block in BLK (43 R291, R305). -/

theorem atCycleStart_eq_true_iff (s : State) : atCycleStart s = true ↔ s.seq.blk = .speed ∧ s.seq.att = 0 := by
  simp [atCycleStart]

section
variable {s : State}

theorem pollStep_of_closed (hblk : s.seq.blk = .speed) (hatt : s.seq.att = 0) (hclosed : s.link = .disconnected) :
    pollStep s = complete .notConnected s := by
  have hstart := (atCycleStart_eq_true_iff s).mpr ⟨hblk, hatt⟩
  have hlink := (connected_eq_false_iff s).mpr hclosed
  rw [pollStep, hstart, hlink]
  rfl

theorem pollStep_of_finish (hblk : s.seq.blk = .finish) : pollStep s = complete .ok s := by
  rw [pollStep, atCycleStart, hblk]
  rfl

theorem pollStep_of_alarm (hblk : s.seq.blk = .alarm) : pollStep s = goto .finish (alarmClearPath s) := by
  rw [pollStep, atCycleStart, hblk]
  rfl

/-- The alarm-clear path of a build that clears the error code (43 R302). -/
theorem pollStep_of_alarm_clearing (hblk : s.seq.blk = .alarm) (hclear : s.params.clearCodeOnAlarmClear = true) :
    pollStep s =
      { s with
        faultState := .clear
        sample := { s.sample with errorCode := 0 }
        valid := { s.valid with err := true }
        seq := { s.seq with blk := .finish, att := 0 } } := by
  have hpath : alarmClearPath s = ((s.setFaultState .clear).setSample { s.sample with errorCode := 0 }).setValid
      { s.valid with err := true } := if_pos hclear
  rw [pollStep_of_alarm hblk, hpath]
  rfl

/-- The alarm-clear path of a build that keeps the error code (43 R302). -/
theorem pollStep_of_alarm_keeping (hblk : s.seq.blk = .alarm) (hkeep : s.params.clearCodeOnAlarmClear = false) :
    pollStep s = { s with faultState := .clear, seq := { s.seq with blk := .finish, att := 0 } } := by
  have hpath : alarmClearPath s = s.setFaultState .clear := if_neg (Bool.eq_false_iff.mp hkeep)
  rw [pollStep_of_alarm hblk, hpath]
  rfl

theorem pollStep_of_dataBlock {b : Blk} (hb : Claims.isDataBlock b) (hblk : s.seq.blk = b)
    (hopen : b = .speed → s.seq.att = 0 → s.link = .connected) : pollStep s = attemptBlock b s := by
  subst hblk
  rcases pollStep_cases s with ⟨hstart, hlink, -⟩ | ⟨-, ⟨hblk, -⟩ | ⟨hblk, -⟩ | ⟨-, -, h⟩⟩
  · obtain ⟨hspeed, hatt⟩ := (atCycleStart_eq_true_iff s).mp hstart
    rw [(connected_eq_true_iff s).mpr (hopen hspeed hatt)] at hlink
    cases hlink
  · rw [hblk] at hb
    exact absurd hb (by simp [Claims.isDataBlock])
  · rw [hblk] at hb
    exact absurd hb (by simp [Claims.isDataBlock])
  · exact h

end

/-! The choices inside a step: the alarm bit (42 R271, 43 R291), the alarm step (44 R332) and the tally (00 R13). -/

@[simp] theorem alarmBit_decodeIo (w0 w1 : Word) (d : Sample) : alarmBit (decodeIo [w0, w1] d) = w1.getLsbD 1 := by
  have hbit : alarmBit (decodeIo [w0, w1] d) = (w1.extractLsb' 0 6).getLsbD 1 := rfl
  rw [hbit, BitVec.getLsbD_extractLsb']
  rfl

/-- The evaluation of the alarm bit, both ways in one update (43 R291). -/
theorem evaluateAlarm_eq {s : State} {a : Bool} (ha : alarmBit s.sample = a) :
    evaluateAlarm s =
      { s with
        cycle := { s.cycle with alarmEval := true, errTried := if a then true else s.cycle.errTried }
        seq := { s.seq with blk := if a then .err else .alarm, att := 0 } } := by
  subst ha
  rcases evaluateAlarm_cases s with ⟨h, he⟩ | ⟨h, he⟩ <;> rw [he, h] <;> rfl

theorem eq_latchedCode_iff {c : Word} (hc : c ≠ 0) (f : FaultState) : c = latchedCode f ↔ f = .faulted c := by
  cases f with
  | clear => simpa [latchedCode] using hc
  | faulted x => simp [latchedCode, eq_comm]

theorem alarmStep_zero (s : State) : alarmStep true 0 s = s.setFaultState .clear := rfl

theorem alarmStep_of_latched {c : Word} {s : State} (hc : c ≠ 0) (hf : s.faultState = .faulted c) :
    alarmStep true c s = s := by
  rw [alarmStep, if_pos rfl, alarmSet, if_neg hc, if_neg (not_not_intro ((eq_latchedCode_iff hc _).mpr hf))]

theorem alarmStep_of_new {c : Word} {s : State} (hc : c ≠ 0) (hf : s.faultState ≠ .faulted c) :
    alarmStep true c s = notify c (s.setFaultState (.faulted c)) := by
  rw [alarmStep, if_pos rfl, alarmSet, if_neg hc, if_pos (mt (eq_latchedCode_iff hc _).mp hf)]

/-- The alarm step neither reads nor writes the sequencer (44 R343). -/
theorem goto_alarmStep (b : Blk) (c : Word) (s : State) :
    goto b (alarmStep true c s) = alarmStep true c (goto b s) := by
  by_cases hc : c = 0
  · subst hc
    rfl
  · by_cases hf : s.faultState = .faulted c
    · rw [alarmStep_of_latched hc hf, alarmStep_of_latched hc (by exact hf)]
    · rw [alarmStep_of_new hc hf, alarmStep_of_new hc (by exact hf)]
      rfl

/-! The store of each block with the words of its response (43 R297 to R303), its whole effect. -/

section
variable (w0 w1 w2 c : Word) (s : State)

theorem storeBlock_speed : storeBlock .speed [w0, w1, w2] s =
    { s with
      sample := { s.sample with speedCmd := w0, speedFb := w1, speedDev := w2 }
      valid := { s.valid with speed := true }
      cycle := { s.cycle with speedOk := true }
      seq := { s.seq with blk := .torque, att := 0 } } := rfl

theorem storeBlock_torque : storeBlock .torque [w0, w1, w2] s =
    { s with
      sample := { s.sample with torqueCmd := w0, torqueFb := w1, torqueDev := w2 }
      valid := { s.valid with torque := true }
      cycle := { s.cycle with torqueOk := true }
      seq := { s.seq with blk := .io, att := 0 } } := rfl

theorem storeIo_eq : storeIo [w0, w1] s =
    { s with
      sample := { s.sample with din := w0.extractLsb' 0 8, dout := w1.extractLsb' 0 6 }
      valid := { s.valid with io := true }
      cycle := { s.cycle with ioOk := true } } := rfl

theorem storeBlock_io : storeBlock .io [w0, w1] s =
    { s with
      sample := { s.sample with din := w0.extractLsb' 0 8, dout := w1.extractLsb' 0 6 }
      valid := { s.valid with io := true }
      cycle := { s.cycle with
        ioOk := true, alarmEval := true, errTried := if w1.getLsbD 1 then true else s.cycle.errTried }
      seq := { s.seq with blk := if w1.getLsbD 1 then .err else .alarm, att := 0 } } := by
  rw [storeBlock, storeIo_eq]
  exact evaluateAlarm_eq (alarmBit_decodeIo w0 w1 s.sample)

theorem storeBlock_err : storeBlock .err [c] s = alarmStep true c
    { s with
      sample := { s.sample with errorCode := c }
      valid := { s.valid with err := true }
      cycle := { s.cycle with errOk := true }
      seq := { s.seq with blk := .finish, att := 0 } } :=
  goto_alarmStep .finish c (((s.setSample (decodeError [c] s.sample)).setValid { s.valid with err := true }).setCycle
    { s.cycle with errOk := true })

end

/-- A failed attempt, both ways in one update: the tally, and SEQ by the number of attempts (43 R295, R296). -/
theorem failAttempt_eq (b : Blk) (k : Nat) (s : State) :
    failAttempt b k s = (s.setErrorTally (satInc32 s.errorTally)).setSeq
      (if k < 5 then { s.seq with att := k } else { s.seq with blk := afterExhausted b, att := 0 }) := by
  rcases failAttempt_cases b k s with ⟨hk, h⟩ | ⟨hk, h⟩ <;> rw [h]
  · rw [if_pos (show k < 5 from hk)]
    rfl
  · rw [if_neg (show ¬ k < 5 from Nat.not_lt.mpr hk)]
    rfl

/-- A refused response counts the attempt and the failure, and SEQ moves by the number of attempts (43 R295, R296). -/
theorem pollStep_of_not_ok {b : Blk} {s : State} (hb : Claims.isDataBlock b) (hblk : s.seq.blk = b)
    (hopen : b = .speed → s.seq.att = 0 → s.link = .connected) (hmax : 3 ≤ s.params.maxBlock)
    (hv : ∀ ws, Claims.verdict s (Claims.blockRequest s b) ≠ .ok ws) :
    pollStep s =
      { s with
        cycle := setAttempts b (s.seq.att + 1) s.cycle
        errorTally := satInc32 s.errorTally
        status := xferFlags (Claims.verdict s (Claims.blockRequest s b)).cause
          (Claims.verdict s (Claims.blockRequest s b)).exc s.status
        seq := if s.seq.att + 1 < 5 then { s.seq with att := s.seq.att + 1 }
          else { s.seq with blk := afterExhausted b, att := 0 }
        env := s.env.transacted (Claims.blockRequest s b) } := by
  rw [pollStep_of_dataBlock hb hblk hopen, attemptBlock_of_not_ok hb hmax hv, failAttempt_eq]
  rfl

theorem pollStep_of_ok {b : Blk} {s : State} {ws : List Word} (hb : Claims.isDataBlock b) (hblk : s.seq.blk = b)
    (hopen : b = .speed → s.seq.att = 0 → s.link = .connected) (hmax : 3 ≤ s.params.maxBlock)
    (hv : Claims.verdict s (Claims.blockRequest s b) = .ok ws) :
    pollStep s = storeBlock b ws (answered b s) := by
  rw [pollStep_of_dataBlock hb hblk hopen, attemptBlock_of_ok hb hmax hv, asked_of_ok hv]

theorem satInc32_eq (x : Word32) : satInc32 x = if x = 0xFFFFFFFF#32 then 0xFFFFFFFF#32 else x + 1 := by
  rw [satInc32]
  split
  · assumption
  · rfl

end Sys2Proof.Machine

namespace Sys2Proof.Proofs

open Sys2Proof.Machine

/-- Settles O52: the last step of a cycle and its first on a closed link are completions. -/
theorem pollCycleCompletesOkOrNotConnected : Obligations.PollCycleCompletesOkOrNotConnected :=
  fun _ => ⟨fun hblk => exec_of_body (pollStep_of_finish hblk),
    fun hblk hatt hclosed => exec_of_body (pollStep_of_closed hblk hatt hclosed)⟩

/-- Settles O51: the two ways through the alarm-clear path. -/
theorem alarmClearResetsTheLatch : Obligations.AlarmClearResetsTheLatch :=
  fun _ hblk => ⟨fun hclear => exec_of_body (pollStep_of_alarm_clearing hblk hclear),
    fun hkeep => exec_of_body (pollStep_of_alarm_keeping hblk hkeep)⟩

/-- Settles O45: an accepted response to either request is stored, and BLK goes on. -/
theorem speedAndTorqueBlocksAreStored : Obligations.SpeedAndTorqueBlocksAreStored := by
  intro s w0 w1 w2 hmax
  refine ⟨fun hblk hopen hv => exec_of_body ?_, fun hblk hv => exec_of_body ?_⟩
  · rw [body, pollStep_of_ok isDataBlock_speed hblk (fun _ => hopen) hmax hv, storeBlock_speed]
    rfl
  · rw [body, pollStep_of_ok isDataBlock_torque hblk nofun hmax hv, storeBlock_torque]
    rfl

/-- Settles O46: an accepted response is stored, and its alarm bit is evaluated on what was stored. -/
theorem ioBlockIsStoredAndTheAlarmEvaluated : Obligations.IoBlockIsStoredAndTheAlarmEvaluated := by
  intro s w0 w1 hblk hmax hv
  refine exec_of_body ?_
  rw [body, pollStep_of_ok isDataBlock_io hblk nofun hmax hv, storeBlock_io]
  rfl

/-- Settles O47: an accepted response is stored, and then the alarm step by its code and the latched one. -/
theorem errorCodeIsStoredAndTheAlarmStepped : Obligations.ErrorCodeIsStoredAndTheAlarmStepped := by
  intro s c hblk hmax hv t
  have hstep : pollStep s = alarmStep true c t := by
    rw [pollStep_of_ok isDataBlock_err hblk nofun hmax hv, storeBlock_err]
    rfl
  refine ⟨?_, fun hc hf => exec_of_body (hstep.trans (alarmStep_of_latched hc hf)),
    fun hc hf => exec_of_body (hstep.trans (alarmStep_of_new hc hf))⟩
  rintro rfl
  exact exec_of_body (hstep.trans (alarmStep_zero t))

/-- Settles O48: a refused response counts the attempt and the failure, and SEQ moves by the number of attempts. -/
theorem failedAttemptIsOnlyCounted : Obligations.FailedAttemptIsOnlyCounted := by
  intro s b hb hblk hopen hmax hv
  refine exec_of_body ?_
  rw [body, pollStep_of_not_ok hb hblk hopen hmax hv, ← satInc32_eq]
  rcases hb with rfl | rfl | rfl | rfl <;> rfl

end Sys2Proof.Proofs
end

section
/-! The bounded retry of a block (43 R295, R296, R299): the state after some failed attempts, and the store or the next
block after it. -/

namespace Sys2Proof.Machine

/-! The engine alone, one step of the running cycle at a time. -/

/-- The command word of POLL_CYCLE (30 R124). -/
theorem decode_pollCycle : decode 4#64 = .ok .pollCycle := by decide

theorem engineStep_of_inCycle {s : State} (h : Claims.inCycle s) : engineStep s = .next (pollStep s) := by
  obtain ⟨hphase, hcur, -⟩ := h
  have hbusy : s.busy = true := (busy_eq_true_iff s).mpr (by simp [hphase])
  rw [engineStep, if_pos hbusy, hcur, decode_pollCycle]
  rfl

theorem engineRun_zero (s : State) : engineRun 0 s = .next s := rfl

theorem engineRun_succ {n : Nat} {s t : State} (h : engineStep s = .next t) : engineRun (n + 1) s = engineRun n t := by
  simp only [engineRun, Host.Core.run, h]

theorem engineRun_succ' {n : Nat} {s t : State} (h : engineRun n s = .next t) :
    engineRun (n + 1) s = engineStep t := by
  induction n generalizing s with
  | zero =>
    obtain rfl : s = t := by injection h
    simp only [engineRun, Host.Core.run]
    cases engineStep s <;> rfl
  | succ n ih =>
    cases hstep : engineStep s with
    | next u =>
      rw [engineRun_succ hstep] at h ⊢
      exact ih h
    | fault r => simp [engineRun, Host.Core.run, hstep] at h
    | refused r => simp [engineRun, Host.Core.run, hstep] at h

/-- A step of the running cycle after a run. -/
theorem engineRun_pollStep {n : Nat} {s t : State} (h : engineRun n s = .next t) (ht : Claims.inCycle t) :
    engineRun (n + 1) s = .next (pollStep t) :=
  (engineRun_succ' h).trans (engineStep_of_inCycle ht)

/-! The state after failed attempts. -/

/-- `s`, at the first attempt of block `b`, after `k` failed attempts of it; `st` is the STATUS they leave. -/
def afterFailures (b : Blk) (k : Nat) (st : Status) (s : State) : State :=
  { s with
    cycle := if k = 0 then s.cycle else setAttempts b k s.cycle
    errorTally := satInc32^[k] s.errorTally
    status := st
    seq := if k < 5 then { s.seq with att := k } else { s.seq with blk := afterExhausted b, att := 0 }
    env := { s.env with
      rxScript := s.env.rxScript.drop k
      txCount := s.env.txCount + k
      sent := s.env.sent ++ List.replicate k (Claims.blockRequest s b) } }

theorem satInc32_iterate_toNat (x : Word32) (k : Nat) : (satInc32^[k] x).toNat = Claims.tallyPlus x k := by
  induction k with
  | zero =>
    have := x.isLt
    simp only [Function.iterate_zero, id, Claims.tallyPlus]
    omega
  | succ k ih =>
    rw [Function.iterate_succ_apply', satInc32_toNat, ih]
    simp only [Claims.tallyPlus]
    omega

@[simp] theorem setAttempts_setAttempts (b : Blk) (j k : Nat) (c : CycleResult) :
    setAttempts b j (setAttempts b k c) = setAttempts b j c := by cases b <;> rfl

section
variable {b : Blk} {k : Nat} {st : Status} {s : State}

theorem afterFailures_zero (hatt : s.seq.att = 0) : afterFailures b 0 s.status s = s := by
  have hseq : { s.seq with att := 0 } = s.seq := by rw [← hatt]
  simp [afterFailures, hseq]

theorem afterFailures_seq (hk : k < 5) : (afterFailures b k st s).seq = { s.seq with att := k } := if_pos hk

theorem inCycle_afterFailures (h : Claims.inCycle s) : Claims.inCycle (afterFailures b k st s) := by
  obtain ⟨hphase, hcur, hlink⟩ := h
  refine ⟨?_, ?_, hlink⟩ <;> simp only [afterFailures] <;> split <;> assumption

/-- The next transaction after `k` of them meets the answer `s` has for the `k`-th (20 R96, log 3). -/
theorem outcomeAt_afterFailures (req : List Byte) : outcomeAt (afterFailures b k st s) 0 req = outcomeAt s k req := by
  simp [outcomeAt, afterFailures]

theorem verdict_afterFailures :
    Claims.verdict (afterFailures b k st s) (Claims.blockRequest (afterFailures b k st s) b) =
      validate s.params.crcProfile (Claims.blockRequest s b) (outcomeAt s k (Claims.blockRequest s b)) :=
  congrArg (validate s.params.crcProfile (Claims.blockRequest s b)) (outcomeAt_afterFailures _)

theorem setAttempts_afterFailures (j : Nat) :
    setAttempts b j (afterFailures b k st s).cycle = setAttempts b j s.cycle := by
  simp only [afterFailures]
  split
  · rfl
  · exact setAttempts_setAttempts b j k s.cycle

theorem transacted_afterFailures :
    (afterFailures b k st s).env.transacted (Claims.blockRequest s b) = (afterFailures b (k + 1) st s).env := by
  simp [afterFailures, Env.transacted, List.tail_drop, List.replicate_succ', Nat.add_assoc]

theorem errorTally_afterFailures : (afterFailures b k st s).errorTally.toNat = Claims.tallyPlus s.errorTally k :=
  satInc32_iterate_toNat s.errorTally k

/-- One more failed attempt: the fifth ends the block, an earlier one leaves another attempt. -/
theorem pollStep_afterFailures (hb : Claims.isDataBlock b) (hblk : s.seq.blk = b) (hopen : s.link = .connected)
    (hmax : 3 ≤ s.params.maxBlock) (hk : k < 5)
    (hv : ∀ ws, validate s.params.crcProfile (Claims.blockRequest s b)
      (outcomeAt s k (Claims.blockRequest s b)) ≠ .ok ws) :
    ∃ st', pollStep (afterFailures b k st s) = afterFailures b (k + 1) st' s := by
  have hseq := afterFailures_seq (b := b) (st := st) (s := s) hk
  have hstep := pollStep_of_not_ok (s := afterFailures b k st s) hb (hseq ▸ hblk) (fun _ _ => hopen) hmax
    (verdict_afterFailures.symm ▸ hv)
  have htally : satInc32 (afterFailures b k st s).errorTally = satInc32^[k + 1] s.errorTally :=
    (Function.iterate_succ_apply' satInc32 k s.errorTally).symm
  rw [hseq, setAttempts_afterFailures, htally] at hstep
  exact ⟨_, hstep.trans (congrArg _ transacted_afterFailures)⟩

theorem engineRun_failures (hb : Claims.isDataBlock b) (hs : Claims.inCycle s) (hblk : s.seq.blk = b)
    (hatt : s.seq.att = 0) (hmax : 3 ≤ s.params.maxBlock) (hk : k ≤ 5)
    (hv : ∀ j, j < k → ∀ ws, validate s.params.crcProfile (Claims.blockRequest s b)
      (outcomeAt s j (Claims.blockRequest s b)) ≠ .ok ws) :
    ∃ st, engineRun k s = .next (afterFailures b k st s) := by
  induction k with
  | zero => exact ⟨s.status, by rw [afterFailures_zero hatt, engineRun_zero]⟩
  | succ k ih =>
    obtain ⟨st, hrun⟩ := ih (Nat.le_of_succ_le hk) fun j hj => hv j (hj.trans k.lt_succ_self)
    obtain ⟨-, -, hopen⟩ := id hs
    obtain ⟨st', hstep⟩ := pollStep_afterFailures (st := st) hb hblk hopen hmax hk (hv k k.lt_succ_self)
    exact ⟨st', hstep ▸ engineRun_pollStep hrun (inCycle_afterFailures hs)⟩

end

/-! The store after failed attempts. -/

theorem alarmStep_faultState (c : Word) (s : State) :
    (alarmStep true c s).faultState = if c = 0 then .clear else .faulted c := by
  by_cases hc : c = 0
  · rw [if_pos hc, hc, alarmStep_zero]
    rfl
  · rw [if_neg hc]
    by_cases hf : s.faultState = .faulted c
    · rw [alarmStep_of_latched hc hf, hf]
    · rw [alarmStep_of_new hc hf]
      rfl

section
variable (c : Word) (s : State)

@[simp] theorem alarmStep_cycle : (alarmStep true c s).cycle = s.cycle := by
  rcases alarmStep_cases true c s with ⟨-, h⟩ | ⟨-, -, -, h⟩ | ⟨-, -, -, h⟩ <;> rw [h] <;> rfl

@[simp] theorem alarmStep_seq : (alarmStep true c s).seq = s.seq := by
  rcases alarmStep_cases true c s with ⟨-, h⟩ | ⟨-, -, -, h⟩ | ⟨-, -, -, h⟩ <;> rw [h] <;> rfl

end

/-- The store of a block's words, register by register, and the block after it (43 R297 to R303). -/
theorem storeBlock_stored {b : Blk} (hb : Claims.isDataBlock b) {ws : List Word} (hlen : ws.length = blockCount b)
    (s : State) : Claims.blockStored b ws s (storeBlock b ws s) s.cycle ∧ (storeBlock b ws s).seq.att = 0 := by
  rcases hb with rfl | rfl | rfl | rfl
  · obtain ⟨w0, w1, w2, rfl⟩ := List.length_eq_three.mp hlen
    exact ⟨⟨rfl, rfl, rfl, rfl, rfl⟩, rfl⟩
  · obtain ⟨w0, w1, w2, rfl⟩ := List.length_eq_three.mp hlen
    exact ⟨⟨rfl, rfl, rfl, rfl, rfl⟩, rfl⟩
  · obtain ⟨w0, w1, rfl⟩ := List.length_eq_two.mp hlen
    rw [storeBlock_io]
    refine ⟨⟨rfl, rfl, ?_, rfl, rfl⟩, rfl⟩
    cases w1.getLsbD 1 <;> rfl
  · obtain ⟨e, rfl⟩ := List.length_eq_one_iff.mp hlen
    rw [storeBlock_err]
    exact ⟨⟨alarmStep_sample _ _ _, alarmStep_valid _ _ _, alarmStep_cycle _ _, alarmStep_faultState _ _,
      congrArg Seq.blk (alarmStep_seq _ _)⟩, congrArg Seq.att (alarmStep_seq _ _)⟩

end Sys2Proof.Machine

namespace Sys2Proof.Proofs

open Sys2Proof.Machine

/-- Settles O49: the state after five failed attempts, field by field. -/
theorem exhaustedBlockLeavesTheSampleStale : Obligations.ExhaustedBlockLeavesTheSampleStale := by
  intro s b hb hs hblk hatt hmax hv
  obtain ⟨st, hrun⟩ := engineRun_failures hb hs hblk hatt hmax (Nat.le_refl 5) hv
  refine ⟨_, hrun, rfl, rfl, rfl, rfl, rfl, errorTally_afterFailures, rfl, inCycle_afterFailures hs, rfl, ?_⟩
  rcases hb with rfl | rfl | rfl | rfl <;> rfl

/-- Settles O50: the state after the failed attempts asks once more, and stores what it is answered. -/
theorem retryStoresTheFirstGoodResponse : Obligations.RetryStoresTheFirstGoodResponse := by
  intro s b k ws hb hs hblk hatt hmax hk hfail hok
  obtain ⟨st, hrun⟩ := engineRun_failures hb hs hblk hatt hmax hk.le hfail
  obtain ⟨-, -, hopen⟩ := id hs
  have hseq := afterFailures_seq (b := b) (st := st) (s := s) hk
  have hv := (verdict_afterFailures (st := st)).trans hok
  have hstep := pollStep_of_ok (s := afterFailures b k st s) hb (hseq ▸ hblk) (fun _ _ => hopen) hmax hv
  obtain ⟨hstored, hnext⟩ := storeBlock_stored hb (length_of_blockRequest_ok hv) (answered b (afterFailures b k st s))
  obtain ⟨hsent, -⟩ := storeBlock_sameXfer b ws (answered b (afterFailures b k st s))
  have hcycle : (answered b (afterFailures b k st s)).cycle = setAttempts b (k + 1) s.cycle := by
    rw [answered, hseq, setAttempts_afterFailures]
  have hnow := (engineRun_pollStep hrun (inCycle_afterFailures hs)).trans (congrArg _ hstep)
  refine ⟨_, hnow, ?_, ?_, hnext, hcycle ▸ hstored⟩
  · rw [storeBlock_errorTally]
    exact satInc32_iterate_toNat s.errorTally k
  · exact hsent.trans (congrArg Env.sent (transacted_afterFailures (st := st)))

/-- Settles O53: the fifth failed attempt leaves the END of the cycle next, which completes it. -/
theorem exhaustedIoSkipsTheAlarm : Obligations.ExhaustedIoSkipsTheAlarm := by
  intro s hs hblk hatt hmax hv
  obtain ⟨st, hrun⟩ := engineRun_failures isDataBlock_io hs hblk hatt hmax (Nat.le_refl 5) hv
  have hstep := pollStep_of_finish (s := afterFailures .io 5 st s) rfl
  have hend := (engineRun_pollStep hrun (inCycle_afterFailures hs)).trans (congrArg _ hstep)
  exact ⟨_, hend, rfl, rfl, rfl, rfl, rfl, rfl, rfl, rfl⟩

end Sys2Proof.Proofs
end

section
/-! Who writes FAULT_STATE (43 R302, R303, R307). -/

namespace Sys2Proof.Machine

section
variable (b : Blk) (k : Nat) (c : Word) (w : List Word) (s : State)

@[simp] theorem readRegisters_faultState (n : Nat) : (readRegisters s c n).faultState = s.faultState := by
  obtain ⟨e, st, h⟩ := readRegisters_eq s c n
  rw [h]; rfl

@[simp] theorem failAttempt_faultState : (failAttempt b k s).faultState = s.faultState := by
  rw [failAttempt_eq]; rfl

theorem storeErr_faultState :
    (storeErr w s).faultState = if wordAt w 0 = 0 then .clear else .faulted (wordAt w 0) :=
  alarmStep_faultState (wordAt w 0) _

end

/-- Of the stores only the error code's moves the latch, to the state of its code. -/
theorem storeBlock_faultState (b : Blk) (w : List Word) (s : State) :
    (storeBlock b w s).faultState =
      if b = .err then (if wordAt w 0 = 0 then .clear else .faulted (wordAt w 0)) else s.faultState := by
  cases b with
  | io =>
    rw [storeBlock, evaluateAlarm_eq rfl]
    rfl
  | err => exact storeErr_faultState w s
  | speed | torque | alarm | finish => rfl

/-- Where a step from `s` may leave the latch of `t`: as it was, `Clear` on the alarm-clear path, or the state of a code
just read. -/
def LatchAfter (s t : State) : Prop :=
  t.faultState = s.faultState ∨
  (s.seq.blk = .alarm ∧ t.faultState = .clear) ∨
  (s.seq.blk = .err ∧ Claims.verdict s (Claims.blockRequest s .err) = .ok [t.sample.errorCode] ∧
    (t.faultState = .clear ∨ t.faultState = .faulted t.sample.errorCode))

/-- The words of an attempt at the error code are those of its verdict, which `s` itself gives. -/
theorem attemptBlock_latchAfter {s : State} {b : Blk} (hblk : s.seq.blk = b) : LatchAfter s (attemptBlock b s) := by
  rcases attemptBlock_cases b s with ⟨hlen, h⟩ | ⟨-, h⟩
  · by_cases hb : b = .err
    · subst hb
      obtain ⟨c, hc⟩ := List.length_eq_one_iff.mp hlen
      have hv := nextVerdict_of_readWords_ne_nil (List.ne_nil_of_length_pos (Nat.one_pos.trans_eq hlen.symm))
      rw [hc] at hv h
      have hcode : (attemptBlock .err s).sample.errorCode = c := by
        rw [h, storeBlock_sample]
        rfl
      refine .inr (.inr ⟨hblk, hcode ▸ hv, ?_⟩)
      rw [hcode, h, storeBlock_faultState, if_pos rfl]
      split
      · exact .inl rfl
      · exact .inr rfl
    · refine .inl ?_
      rw [h, storeBlock_faultState, if_neg hb, readRegisters_faultState]
      rfl
  · refine .inl ?_
    rw [h, failAttempt_faultState, readRegisters_faultState]
    rfl

theorem pollStep_latchAfter (s : State) : LatchAfter s (pollStep s) := by
  rcases pollStep_cases s with ⟨-, -, h⟩ | ⟨-, ⟨hblk, h⟩ | ⟨-, h⟩ | ⟨-, -, h⟩⟩ <;> rw [h]
  · exact .inl rfl
  · rcases alarmClearPath_cases s with ⟨-, ha⟩ | ⟨-, ha⟩ <;> rw [ha] <;> exact .inr (.inl ⟨hblk, rfl⟩)
  · exact .inl rfl
  · exact attemptBlock_latchAfter rfl

theorem step_latchAfter {s t : State} (h : step s = .next t) (hr : Claims.noReset s) : LatchAfter s t := by
  rcases step_cases_of_noReset h hr with ⟨-, -, -, -, hfault, -⟩ | ⟨-, i, a, -, rfl⟩
  · exact .inl hfault
  · by_cases hi : i = .pollCycle
    · subst hi
      exact pollStep_latchAfter (s.withAgenda a)
    · obtain ⟨-, -, -, hfault, -⟩ := body_samePoll hi (s.withAgenda a)
      exact .inl hfault

end Sys2Proof.Machine

namespace Sys2Proof.Proofs

open Sys2Proof.Machine

/-- Settles O28: of the ways to leave the latch, the two that move it. -/
theorem faultStateMovesOnDecodedDataOnly : Obligations.FaultStateMovesOnDecodedDataOnly :=
  fun _ _ h hr hne => (step_latchAfter h hr).resolve_left hne

end Sys2Proof.Proofs
end

section
/-! One whole cycle with every block answered the first time (43 R291, R305). -/

namespace Sys2Proof.Machine

/-! What a store leaves alone, and where it puts the trace. -/

theorem alarmStep_env (c : Word) (s : State) : (alarmStep true c s).env = s.env := by
  rcases alarmStep_cases true c s with ⟨-, h⟩ | ⟨-, -, -, h⟩ | ⟨-, -, -, h⟩ <;> rw [h] <;> rfl

/-- The trace after an alarm step with this code: one notification where it is neither 0 nor latched (44 R340, R341). -/
def traceAfter (c : Word) (s : State) : List Notify :=
  if c = 0 ∨ s.faultState = .faulted c then s.notifyTrace else s.notifyTrace ++ [⟨c, faultMsg s.params c⟩]

theorem alarmStep_notifyTrace (c : Word) (s : State) : (alarmStep true c s).notifyTrace = traceAfter c s := by
  rw [traceAfter]
  by_cases hc : c = 0
  · rw [if_pos (.inl hc), hc, alarmStep_zero]
    rfl
  · by_cases hf : s.faultState = .faulted c
    · rw [if_pos (.inr hf), alarmStep_of_latched hc hf]
    · rw [if_neg (not_or.mpr ⟨hc, hf⟩), alarmStep_of_new hc hf]
      rfl

theorem traceAfter_of_ne_zero {c : Word} (hc : c ≠ 0) (s : State) :
    traceAfter c s =
      if s.faultState = .faulted c then s.notifyTrace else s.notifyTrace ++ [⟨c, faultMsg s.params c⟩] := by
  simp only [traceAfter, hc, false_or]

section
variable (b : Blk) (w : List Word) (s : State)

theorem storeBlock_env : (storeBlock b w s).env = s.env := by
  cases b with
  | io => rw [storeBlock, evaluateAlarm_eq rfl]; rfl
  | err => exact alarmStep_env (wordAt w 0) _
  | speed | torque | alarm | finish => rfl

theorem storeBlock_phase_cur :
    (storeBlock b w s).seq.phase = s.seq.phase ∧ (storeBlock b w s).seq.cur = s.seq.cur := by
  cases b with
  | io => rw [storeBlock, evaluateAlarm_eq rfl]; exact ⟨rfl, rfl⟩
  | err =>
    have hseq : (storeErr w s).seq = s.seq := alarmStep_seq (wordAt w 0) _
    have hphase : (storeErr w s).seq.phase = s.seq.phase := by rw [hseq]
    have hcur : (storeErr w s).seq.cur = s.seq.cur := by rw [hseq]
    exact ⟨hphase, hcur⟩
  | speed | torque | alarm | finish => exact ⟨rfl, rfl⟩

theorem storeBlock_notifyTrace :
    (storeBlock b w s).notifyTrace = if b = .err then traceAfter (wordAt w 0) s else s.notifyTrace := by
  cases b with
  | io => rw [storeBlock, evaluateAlarm_eq rfl]; rfl
  | err => exact alarmStep_notifyTrace (wordAt w 0) _
  | speed | torque | alarm | finish => rfl

end

/-! A block answered the first time. -/

/-- The line's next outcome is the response that carries these registers (20 R96, 30 R132). -/
def AnsweredNext (s : State) (ws : List Word) (rest : List RxOutcome) : Prop :=
  s.env.rxScript = received (readResponse s.params.crcProfile (s.linkcfg.slave.setWidth 8) ws) :: rest

/-- One step of the running cycle `s` leads to `t`: the first attempt of block `b` stored the words `ws`, and `rest` of
the script is left. -/
structure StoredFirst (b : Blk) (ws : List Word) (rest : List RxOutcome) (s t : State) : Prop where
  run : ∀ n, engineRun (n + 1) s = engineRun n t
  inCycle : Claims.inCycle t
  transport : SameTransport s t
  script : t.env.rxScript = rest
  sent : t.env.sent = s.env.sent ++ [Claims.blockRequest s b]
  tally : t.errorTally = s.errorTally
  trace : t.notifyTrace = if b = .err then traceAfter (wordAt ws 0) s else s.notifyTrace
  att : t.seq.att = 0
  stored : Claims.blockStored b ws s t (setAttempts b 1 s.cycle)

section
variable {b : Blk} {s t : State} {ws : List Word} {rest : List RxOutcome}

/-- A response of the block's count, scripted, is accepted (40 R182). -/
theorem verdict_of_answeredNext (hlen : ws.length = blockCount b) (h : AnsweredNext s ws rest) :
    Claims.verdict s (Claims.blockRequest s b) = .ok ws := by
  have hcount : blockCount b ≤ 125 := (blockCount_le_three b).trans (by decide)
  have houtcome : outcomeAt s 0 (Claims.blockRequest s b) =
      received (readResponse s.params.crcProfile (slaveByte s) ws) := by
    rw [outcomeAt, h]
    rfl
  rw [Claims.verdict, houtcome]
  exact (Proofs.readIsOkExactlyOnItsResponse s.params.crcProfile (slaveByte s) (blockAddr s.params b) (blockCount b) _
    ws hcount).mpr ⟨hlen, rfl⟩

theorem storedFirst_of_answeredNext (hb : Claims.isDataBlock b) (hs : Claims.inCycle s) (hblk : s.seq.blk = b)
    (hatt : s.seq.att = 0) (hmax : 3 ≤ s.params.maxBlock) (hlen : ws.length = blockCount b)
    (h : AnsweredNext s ws rest) : ∃ t, StoredFirst b ws rest s t := by
  obtain ⟨hphase, hcur, hopen⟩ := id hs
  obtain ⟨hphase', hcur'⟩ := storeBlock_phase_cur b ws (answered b s)
  have htransport : SameTransport s (storeBlock b ws (answered b s)) := storeBlock_sameTransport b ws (answered b s)
  obtain ⟨-, -, -, -, hlink⟩ := id htransport
  obtain ⟨hstored, hatt'⟩ := storeBlock_stored hb hlen (answered b s)
  have hcycle : (answered b s).cycle = setAttempts b 1 s.cycle := by rw [answered, hatt]
  have hstep := pollStep_of_ok hb hblk (fun _ _ => hopen) hmax (verdict_of_answeredNext hlen h)
  refine ⟨storeBlock b ws (answered b s), {
    run := fun n => engineRun_succ ((engineStep_of_inCycle hs).trans (congrArg _ hstep))
    inCycle := ⟨hphase'.trans hphase, hcur'.trans hcur, hlink.trans hopen⟩
    transport := htransport
    script := ?_
    sent := ?_
    tally := storeBlock_errorTally b ws _
    trace := storeBlock_notifyTrace b ws _
    att := hatt'
    stored := hcycle ▸ hstored }⟩
  · rw [storeBlock_env]
    exact congrArg List.tail h
  · rw [storeBlock_env]
    rfl

theorem SameTransport.answeredNext (h : SameTransport s t)
    (hscript : t.env.rxScript =
      received (readResponse s.params.crcProfile (s.linkcfg.slave.setWidth 8) ws) :: rest) :
    AnsweredNext t ws rest := by
  obtain ⟨hparams, hcfg, -⟩ := h
  rw [AnsweredNext, hparams, hcfg, hscript]

theorem SameTransport.params_eq (h : SameTransport s t) : t.params = s.params := by
  obtain ⟨hparams, -⟩ := h
  exact hparams

theorem SameTransport.le_maxBlock (h : SameTransport s t) {n : Nat} (hmax : n ≤ s.params.maxBlock) :
    n ≤ t.params.maxBlock := by
  rwa [h.params_eq]

theorem SameTransport.blockRequest_eq (h : SameTransport s t) (b : Blk) :
    Claims.blockRequest t b = Claims.blockRequest s b := by
  obtain ⟨hparams, hcfg, -⟩ := h
  rw [Claims.blockRequest, Claims.blockRequest, Claims.frame8, Claims.frame8, hparams, hcfg]

end

/-! The three blocks every cycle reads. -/

/-- `t` is a running cycle after the speed, torque and IO blocks were each stored at their first attempt. -/
structure ReadThrough (a0 a1 a2 b0 b1 b2 c0 c1 : Word) (rest : List RxOutcome) (s t : State) : Prop where
  run : ∀ n, engineRun (n + 3) s = engineRun n t
  inCycle : Claims.inCycle t
  transport : SameTransport s t
  script : t.env.rxScript = rest
  sent : t.env.sent = s.env.sent ++
    [Claims.blockRequest s .speed, Claims.blockRequest s .torque, Claims.blockRequest s .io]
  tally : t.errorTally = s.errorTally
  trace : t.notifyTrace = s.notifyTrace
  fault : t.faultState = s.faultState
  sample : t.sample = { s.sample with
    speedCmd := a0, speedFb := a1, speedDev := a2, torqueCmd := b0, torqueFb := b1, torqueDev := b2
    din := c0.extractLsb' 0 8, dout := c1.extractLsb' 0 6 }
  valid : t.valid = { s.valid with speed := true, torque := true, io := true }
  cycle : t.cycle = { s.cycle with
    speedOk := true, torqueOk := true, ioOk := true, alarmEval := true, errTried := c1.getLsbD 1 || s.cycle.errTried
    speedAtt := 1, torqueAtt := 1, ioAtt := 1 }
  blk : t.seq.blk = if c1.getLsbD 1 then .err else .alarm
  att : t.seq.att = 0

theorem readThrough_of_answered {s : State} {a0 a1 a2 b0 b1 b2 c0 c1 : Word} {rest : List RxOutcome}
    (hs : Claims.inCycle s) (hblk : s.seq.blk = .speed) (hatt : s.seq.att = 0) (hmax : 3 ≤ s.params.maxBlock)
    (hscript : let answer (ws : List Word) :=
        received (readResponse s.params.crcProfile (s.linkcfg.slave.setWidth 8) ws)
      s.env.rxScript = answer [a0, a1, a2] :: answer [b0, b1, b2] :: answer [c0, c1] :: rest) :
    ∃ t, ReadThrough a0 a1 a2 b0 b1 b2 c0 c1 rest s t := by
  obtain ⟨t1, h1⟩ := storedFirst_of_answeredNext isDataBlock_speed hs hblk hatt hmax rfl hscript
  obtain ⟨hsample1, hvalid1, hcycle1, hfault1, hblk1⟩ := h1.stored
  obtain ⟨t2, h2⟩ := storedFirst_of_answeredNext isDataBlock_torque h1.inCycle hblk1 h1.att
    (h1.transport.le_maxBlock hmax) rfl (h1.transport.answeredNext h1.script)
  obtain ⟨hsample2, hvalid2, hcycle2, hfault2, hblk2⟩ := h2.stored
  have htransport2 := h1.transport.trans h2.transport
  obtain ⟨t3, h3⟩ := storedFirst_of_answeredNext isDataBlock_io h2.inCycle hblk2 h2.att
    (htransport2.le_maxBlock hmax) rfl (htransport2.answeredNext h2.script)
  obtain ⟨hsample3, hvalid3, hcycle3, hfault3, hblk3⟩ := h3.stored
  exact ⟨t3, {
    run := fun n => (h1.run _).trans ((h2.run _).trans (h3.run n))
    inCycle := h3.inCycle
    transport := htransport2.trans h3.transport
    script := h3.script
    sent := by
      rw [h3.sent, h2.sent, h1.sent, h1.transport.blockRequest_eq, htransport2.blockRequest_eq]
      simp
    tally := h3.tally.trans (h2.tally.trans h1.tally)
    trace := h3.trace.trans (h2.trace.trans h1.trace)
    fault := hfault3.trans (hfault2.trans hfault1)
    sample := by rw [hsample3, hsample2, hsample1]
    valid := by rw [hvalid3, hvalid2, hvalid1]
    cycle := by
      rw [hcycle3, hcycle2, hcycle1]
      rfl
    blk := hblk3
    att := h3.att }⟩

/-! The end of a cycle, and what the host reads of it. -/

/-- The last step of a cycle is its completion (43 R291). -/
theorem engineRun_finish {s : State} (hs : Claims.inCycle s) (hblk : s.seq.blk = .finish) :
    engineRun 1 s = .next (complete .ok s) :=
  (engineRun_succ (engineStep_of_inCycle hs)).trans (congrArg _ (pollStep_of_finish hblk))

/-- The last two steps of a cycle: one that leaves its END next, and the completion. -/
theorem engineRun_two {s t : State} (hs : Claims.inCycle s) (hstep : pollStep s = t) (ht : Claims.inCycle t)
    (hblk : t.seq.blk = .finish) : engineRun 2 s = .next (complete .ok t) :=
  (engineRun_succ ((engineStep_of_inCycle hs).trans (congrArg _ hstep))).trans (engineRun_finish ht hblk)

/-- A latched code as the host reads it (10 R46). -/
theorem faultImage_faulted_setWidth (c : Word) :
    (faultImage (.faulted c)).setWidth 64 = (c.setWidth 64 <<< 16) ||| 1 := by
  apply BitVec.eq_of_getLsbD_eq
  intro i hi
  have hinside : i - 16 < 64 := by omega
  have hplace : (!decide (i < 16)) = decide (16 ≤ i) := by simp [← decide_not]
  simp only [faultImage, BitVec.getLsbD_setWidth, BitVec.getLsbD_or, getLsbD_bitAt, getLsbD_fieldAt,
    BitVec.getLsbD_shiftLeft]
  by_cases h : i < 32
  · simp [hi, h, hinside, hplace, Bool.or_comm]
  · have hne : i ≠ 0 := by omega
    simp [h, hne, BitVec.getLsbD_of_ge c (i - 16) (by omega)]

end Sys2Proof.Machine

namespace Sys2Proof.Proofs

open Sys2Proof.Machine

/-- Settles O54: three blocks stored, then the alarm-clear path and the completion. -/
theorem cleanCycleStoresTheSample : Obligations.CleanCycleStoresTheSample := by
  intro s a0 a1 a2 b0 b1 b2 c0 c1 rest hs hblk hatt hzero hmax hclear hbit hscript
  obtain ⟨t, ht⟩ := readThrough_of_answered hs hblk hatt hmax hscript
  have hblk' : t.seq.blk = .alarm := by rw [ht.blk, hbit]; rfl
  have hclear' : t.params.clearCodeOnAlarmClear = true := by rw [ht.transport.params_eq, hclear]
  have hstep := pollStep_of_alarm_clearing hblk' hclear'
  refine ⟨_, (ht.run 2).trans (engineRun_two ht.inCycle hstep ht.inCycle rfl), rfl, rfl, ?_, ?_, ?_, rfl, ht.tally,
    ht.trace, ht.sent, ht.script⟩
  · rw [readReg_cycle, complete_cycle, ht.cycle, hzero, hbit]
    rfl
  · rw [complete_sample, ht.sample]
  · rw [complete_valid, ht.valid]

/-- Settles O55: three blocks stored, then the error code with its alarm step, and the completion. -/
theorem alarmedCycleLatchesTheFault : Obligations.AlarmedCycleLatchesTheFault := by
  intro s a0 a1 a2 b0 b1 b2 c0 c1 e rest hs hblk hatt hzero hmax hbit he hscript
  obtain ⟨t, ht⟩ := readThrough_of_answered hs hblk hatt hmax hscript
  have hblk' : t.seq.blk = .err := by rw [ht.blk, hbit]; rfl
  obtain ⟨u, hu⟩ := storedFirst_of_answeredNext isDataBlock_err ht.inCycle hblk' ht.att (ht.transport.le_maxBlock hmax)
    rfl (ht.transport.answeredNext ht.script)
  obtain ⟨hsample, -, hcycle, hfault, hfinish⟩ := hu.stored
  have hrun := (ht.run 2).trans ((hu.run 1).trans (engineRun_finish hu.inCycle hfinish))
  refine ⟨complete .ok u, hrun, rfl, rfl, ?_, ?_, ?_, hu.tally.trans ht.tally, ?_, ?_⟩
  · rw [readReg_cycle, complete_cycle, hcycle, ht.cycle, hzero, hbit]
    rfl
  · rw [complete_sample, hsample]
  · rw [readReg_fault, complete_faultState, hfault, if_neg he, faultImage_faulted_setWidth]
  · rw [complete_notifyTrace, hu.trace, if_pos rfl]
    exact (traceAfter_of_ne_zero he t).trans (by rw [ht.fault, ht.trace, ht.transport.params_eq])
  · rw [complete_env, hu.sent, ht.sent, ht.transport.blockRequest_eq]
    simp

end Sys2Proof.Proofs
end

section
/-! The notifications of the Alarm State Machine (44 R332 to R341) and their messages (42 R276). -/

namespace Sys2Proof.Machine

/-! The alarm step by the latch it meets. -/

theorem setFaultState_of_eq {s : State} {f : FaultState} (h : s.faultState = f) : s.setFaultState f = s :=
  h ▸ rfl

/-- The alarm bit clear leaves `Clear`, whatever the code (44 R332). -/
theorem alarmStep_false (d : Word) (s : State) : alarmStep false d s = s.setFaultState .clear := rfl

/-- `notify` as an update of the state, with the count as a number (44 R340). -/
theorem notify_setFaultState (c : Word) (s : State) :
    notify c (s.setFaultState (.faulted c)) =
      { s with
        faultState := .faulted c
        notifyTrace := s.notifyTrace ++ [⟨c, faultMsg s.params c⟩]
        notifyCount := BitVec.ofNat 32 (s.notifyCount.toNat + 1)
        notifyCode := c } := rfl

/-- An alarm step latches its code, so the same step again finds it latched (44 R341). -/
theorem alarmStep_alarmStep {c : Word} (hc : c ≠ 0) (s : State) :
    alarmStep true c (alarmStep true c s) = alarmStep true c s :=
  alarmStep_of_latched hc ((alarmStep_faultState c s).trans (if_neg hc))

/-! One notification per entry into a fault. -/

/-- From `s` to `t` the trace is kept, or it grows by the one event of a code `t` latches and `s` did not. -/
def NotifiesOnEntry (s t : State) : Prop :=
  t.notifyTrace = s.notifyTrace ∨
  ∃ c, c ≠ 0 ∧ t.notifyTrace = s.notifyTrace ++ [⟨c, faultMsg s.params c⟩] ∧ s.faultState ≠ .faulted c ∧
    t.faultState = .faulted c

/-- Of the stores only the error code's notifies, where its code is neither 0 nor latched. -/
theorem storeBlock_notifiesOnEntry (b : Blk) (w : List Word) (s : State) : NotifiesOnEntry s (storeBlock b w s) := by
  have htrace := storeBlock_notifyTrace b w s
  have hfault := storeBlock_faultState b w s
  by_cases hb : b = .err
  · rw [if_pos hb] at htrace hfault
    by_cases hkept : wordAt w 0 = 0 ∨ s.faultState = .faulted (wordAt w 0)
    · exact .inl (htrace.trans (if_pos hkept))
    · obtain ⟨hc, hnew⟩ := not_or.mp hkept
      exact .inr ⟨wordAt w 0, hc, htrace.trans (if_neg hkept), hnew, hfault.trans (if_neg hc)⟩
  · exact .inl (htrace.trans (if_neg hb))

theorem readRegisters_samePoll (s : State) (a : Word) (n : Nat) : SamePoll s (readRegisters s a n) := by
  obtain ⟨e, st, h⟩ := readRegisters_eq s a n
  exact h.symm ▸ SamePoll.refl s

theorem failAttempt_notifyTrace (b : Blk) (k : Nat) (s : State) : (failAttempt b k s).notifyTrace = s.notifyTrace := by
  rw [failAttempt_eq]; rfl

/-- A start with the same parameters, latch and trace notifies alike. -/
theorem NotifiesOnEntry.of_same {s u t : State} (hparams : u.params = s.params) (hpoll : SamePoll s u)
    (h : NotifiesOnEntry u t) : NotifiesOnEntry s t := by
  obtain ⟨-, -, -, hfault, -, -, htrace⟩ := hpoll
  rwa [NotifiesOnEntry, hparams, hfault, htrace] at h

/-- An attempt reads its registers into a state with the same latch and trace, and stores or fails from there. -/
theorem attemptBlock_notifiesOnEntry (b : Blk) (s : State) : NotifiesOnEntry s (attemptBlock b s) := by
  have hparams := (readRegisters_sameTransport (s.setCycle (setAttempts b (s.seq.att + 1) s.cycle))
    (blockAddr s.params b) (blockCount b)).params_eq
  have hpoll := readRegisters_samePoll (s.setCycle (setAttempts b (s.seq.att + 1) s.cycle))
    (blockAddr s.params b) (blockCount b)
  rcases attemptBlock_cases b s with ⟨-, h⟩ | ⟨-, h⟩ <;> rw [h]
  · exact NotifiesOnEntry.of_same hparams hpoll (storeBlock_notifiesOnEntry b _ _)
  · exact NotifiesOnEntry.of_same hparams hpoll (.inl (failAttempt_notifyTrace b _ _))

theorem pollStep_notifiesOnEntry (s : State) : NotifiesOnEntry s (pollStep s) := by
  rcases pollStep_cases s with ⟨-, -, h⟩ | ⟨-, ⟨-, h⟩ | ⟨-, h⟩ | ⟨-, -, h⟩⟩ <;> rw [h]
  · exact .inl rfl
  · rcases alarmClearPath_cases s with ⟨-, ha⟩ | ⟨-, ha⟩ <;> rw [ha] <;> exact .inl rfl
  · exact .inl rfl
  · exact attemptBlock_notifiesOnEntry s.seq.blk s

theorem step_notifiesOnEntry {s t : State} (h : step s = .next t) (hr : Claims.noReset s) : NotifiesOnEntry s t := by
  rcases step_cases_of_noReset h hr with ⟨-, -, -, -, -, -, -, htrace⟩ | ⟨-, i, a, -, rfl⟩
  · exact .inl htrace
  · by_cases hi : i = .pollCycle
    · subst hi
      exact pollStep_notifiesOnEntry (s.withAgenda a)
    · obtain ⟨-, -, -, -, -, -, htrace⟩ := body_samePoll hi (s.withAgenda a)
      exact .inl htrace

/-! FAULT_MSG (42 R276). -/

/-- The first entry of a code gives its message (log 15). -/
theorem lookupMsg_append_cons {c : Word} {before : List (Word × String)} (hbefore : ∀ e ∈ before, e.1 ≠ c)
    (m : String) (after : List (Word × String)) : lookupMsg (before ++ (c, m) :: after) c = m := by
  induction before with
  | nil => exact if_pos rfl
  | cons e before ih =>
    obtain ⟨hne, hrest⟩ := List.forall_mem_cons.mp hbefore
    exact (if_neg hne).trans (ih hrest)

theorem lookupMsg_of_unlisted {c : Word} {table : List (Word × String)} (h : ∀ e ∈ table, e.1 ≠ c) :
    lookupMsg table c = "unknown error code" := by
  induction table with
  | nil => rfl
  | cons e table ih =>
    obtain ⟨hne, hrest⟩ := List.forall_mem_cons.mp h
    exact (if_neg hne).trans (ih hrest)

theorem faultMsg_zero (p : Params) : faultMsg p 0 = "" := rfl

theorem faultMsg_thirteen (p : Params) : faultMsg p 13 = "undervoltage" := rfl

theorem faultMsg_eq_lookupMsg {c : Word} (h0 : c ≠ 0) (h13 : c ≠ 13) (p : Params) :
    faultMsg p c = lookupMsg p.faultMsgs c := by
  rw [faultMsg, if_neg h0, if_neg h13]

end Sys2Proof.Machine

namespace Sys2Proof.Proofs

open Sys2Proof.Machine

/-- Settles O56: the rows of the table by the latch, then the alarm bit and the code. -/
theorem alarmTransitionTable : Obligations.AlarmTransitionTable := by
  intro s c x hc _
  have hentry (hnew : s.faultState ≠ .faulted c) := (alarmStep_of_new hc hnew).trans (notify_setFaultState c s)
  refine ⟨fun hclear d => ?_, fun hclear => ?_, fun hclear => hentry (by simp [hclear]), fun _ d => ?_,
    fun hfault hcx => alarmStep_of_latched hc (hcx ▸ hfault),
    fun hfault hcx => hentry (by simpa [hfault] using hcx.symm), fun _ => ?_⟩
  · rw [alarmStep_false, setFaultState_of_eq hclear]
  · rw [alarmStep_zero, setFaultState_of_eq hclear]
  · exact alarmStep_false d s
  · exact alarmStep_zero s

/-- Settles O57: the step lemma on the trace, the fixed point of a repeated alarm step, and the table's first entry. -/
theorem oneNotificationPerFaultOnset : Obligations.OneNotificationPerFaultOnset := by
  refine ⟨fun s t h hr => step_notifiesOnEntry h hr, fun s c n hc => ?_, fun p => ⟨faultMsg_zero p, faultMsg_thirteen p,
    fun c h0 h13 => ⟨fun m before after htable hbefore => ?_, fun hnone => ?_⟩⟩⟩
  · rw [Function.iterate_succ_apply, Function.iterate_fixed (alarmStep_alarmStep hc s)]
  · rw [faultMsg_eq_lookupMsg h0 h13, htable, lookupMsg_append_cons hbefore]
  · rw [faultMsg_eq_lookupMsg h0 h13, lookupMsg_of_unlisted hnone]

end Sys2Proof.Proofs
end

section
/-! The command lifecycle (60 R362 to R372): one equation for each way a step goes, by the host's next action, and for each
way a write to CMD goes. -/

namespace Sys2Proof.Machine

/-! The engine's step (10 R56). -/

section
variable {s : State} {i : Instr}

theorem engineStep_of_idle (hidle : s.busy = false) : engineStep s = .next s :=
  if_neg (Bool.eq_false_iff.mp hidle)

theorem engineStep_of_running (hbusy : s.busy = true) (hi : decode s.seq.cur = .ok i) : engineStep s = exec i s := by
  rw [engineStep, if_pos hbusy, hi]

/-- A running command is a command word of the map, and PHASE is its phase (10 R56). -/
theorem exists_running_command (h : s.Inv) (hbusy : s.busy = true) :
    ∃ i, decode s.seq.cur = .ok i ∧ s.seq.phase = phaseOf i := by
  obtain ⟨-, -, hrun, -, -⟩ := h.seq
  obtain ⟨-, hcommand⟩ := hrun hbusy
  exact hcommand

/-- The block has no traps (60 R371): every command answers a next state, and CUR holds one while the engine runs. -/
theorem engineStep_progress (h : s.Inv) : ∃ t, engineStep s = .next t := by
  cases hbusy : s.busy with
  | false => exact ⟨s, engineStep_of_idle hbusy⟩
  | true =>
    obtain ⟨i, hi, -⟩ := exists_running_command h hbusy
    exact ⟨body i s, (engineStep_of_running hbusy hi).trans (exec_eq i s)⟩

end

/-! The step, by the host's next action (60 R370, log 5). -/

section
variable {s : State} {rest : List HostAction}

theorem step_of_no_action (h : s.env.agenda = []) : step s = engineStep s := by rw [step, h]

theorem step_of_turn (h : s.env.agenda = .turn :: rest) : step s = engineStep (s.withAgenda rest) := by rw [step, h]

theorem step_of_sync_busy (h : s.env.agenda = .sync :: rest) (hbusy : s.busy = true) : step s = engineStep s := by
  rw [step, h]
  exact if_pos hbusy

theorem step_of_sync_idle (h : s.env.agenda = .sync :: rest) (hidle : s.busy = false) :
    step s = .next (s.withAgenda rest) := by
  rw [step, h]
  exact if_neg (Bool.eq_false_iff.mp hidle)

theorem step_of_write {n : Nat} {v : BitVec 64} (h : s.env.agenda = .write n v :: rest) :
    step s = .next (writeReg n v (s.withAgenda rest)) := by rw [step, h]

theorem step_of_reset (h : s.env.agenda = .reset :: rest) : step s = .next (resetNow (s.withAgenda rest)) := by
  rw [step, h]

theorem step_progress (h : s.Inv) : ∃ t, step s = .next t := by
  match hagenda : s.env.agenda with
  | [] => exact step_of_no_action hagenda ▸ engineStep_progress h
  | .turn :: rest => exact step_of_turn hagenda ▸ engineStep_progress (withAgenda_keeps_inv rest h)
  | .sync :: rest =>
    cases hbusy : s.busy with
    | false => exact ⟨_, step_of_sync_idle hagenda hbusy⟩
    | true => exact step_of_sync_busy hagenda hbusy ▸ engineStep_progress h
  | .write n v :: rest => exact ⟨_, step_of_write hagenda⟩
  | .reset :: rest => exact ⟨_, step_of_reset hagenda⟩

end

/-! A write to CMD (60 R362, R363, R367). -/

section
variable {w : CmdWord} {s : State} {i : Instr}

theorem writeReg_cmd_of_idle (hidle : s.busy = false) : writeReg 0 w s = accept w s :=
  if_neg (Bool.eq_false_iff.mp hidle)

theorem writeReg_cmd_of_busy (hbusy : s.busy = true) : writeReg 0 w s = reject s := if_pos hbusy

/-- OP of a legal word is that of its command's row (30 R127). -/
theorem op_of_decode (h : decode w = .ok i) : w.toNat % 256 = (opField i.row.bits).toNat := by
  rw [← toNat_opField, opField_of_accepts (row_mem_opcodeMap i) (accepts_of_decode h)]

theorem phaseOfOp_of_decode (h : decode w = .ok i) : Claims.phaseOfOp w = phaseOf i := by
  rw [Claims.phaseOfOp, op_of_decode h]
  cases i <;> rfl

theorem enter_of_ne_pollCycle (hi : i ≠ .pollCycle) : enter i s = s.setSeq { s.seq with phase := phaseOf i } := by
  rcases enter_cases i s with ⟨-, h⟩ | ⟨hpoll, -⟩ | ⟨hpoll, -⟩
  · exact h
  · exact absurd hpoll hi
  · exact absurd hpoll hi

/-- The two starts of a cycle as one: CYCLE_RESULT is cleared where the link is open (log 7). -/
theorem enter_pollCycle :
    enter .pollCycle s = (s.setSeq { s.seq with phase := .cycle, blk := .speed, att := 0 }).setCycle
      (if s.link = .connected then CycleResult.zero else s.cycle) := by
  rcases enter_cases .pollCycle s with ⟨hne, -⟩ | ⟨-, hclosed, h⟩ | ⟨-, hopen, h⟩
  · exact absurd rfl hne
  · rw [h, (connected_eq_false_iff s).mp hclosed]
    rfl
  · rw [h, if_pos ((connected_eq_true_iff s).mp hopen)]

end

/-! The effective poll interval (60 R392). -/

theorem effIntervalUs_toNat (s : State) : (effIntervalUs s).toNat = min (max s.pollIntervalUs.toNat 1000) 2000000 := by
  have hmin : pollMinUs.toNat = 1000 := rfl
  have hmax : pollMaxUs.toNat = 2000000 := rfl
  unfold effIntervalUs
  split
  · omega
  · split <;> omega

end Sys2Proof.Machine

namespace Sys2Proof.Proofs

open Sys2Proof.Machine

/-- Settles O21: CUR holds a command word while the engine runs, and every command and host action answers a next state. -/
theorem noSafeStateStops : Obligations.NoSafeStateStops := by
  intro s h
  exact step_progress h

/-- Settles O6: with no action, a turn or a SYNC before it, the engine's step runs the command in CUR. -/
theorem stepRunsTheRunningCommand : Obligations.StepRunsTheRunningCommand := by
  intro s i hbusy hi
  refine ⟨fun h => ?_, fun rest h => ?_, fun rest h => ?_⟩
  · exact (step_of_no_action h).trans (engineStep_of_running hbusy hi)
  · exact (step_of_turn h).trans (engineStep_of_running (s := s.withAgenda rest) hbusy hi)
  · exact (step_of_sync_busy h hbusy).trans (engineStep_of_running hbusy hi)

/-- Settles O7: each host action's equation of the step, and the idle engine's own step. -/
theorem hostActsBetweenEngineSteps : Obligations.HostActsBetweenEngineSteps := by
  intro s rest
  refine ⟨fun n v h => step_of_write h, fun h => step_of_reset h, fun hidle h => ?_, fun hidle h => ?_,
    fun hidle h => step_of_sync_idle h hidle⟩
  · exact (step_of_no_action h).trans (engineStep_of_idle hidle)
  · exact (step_of_turn h).trans (engineStep_of_idle (s := s.withAgenda rest) hidle)

/-- Settles O8: the word is latched, then the command is entered, and a poll cycle with its start. -/
theorem acceptanceStartsTheCommand : Obligations.AcceptanceStartsTheCommand := by
  intro s w i hidle hi
  have haccept : writeReg 0 w s = enter i (latch w s) := (writeReg_cmd_of_idle hidle).trans (accept_ok hi s)
  refine ⟨fun hne => ?_, fun hpoll => ?_⟩
  · rw [haccept, enter_of_ne_pollCycle hne, phaseOfOp_of_decode hi]
    rfl
  · rw [haccept, hpoll, enter_pollCycle]
    rfl

/-- Settles O9: the word is latched and completes in the same step. -/
theorem illegalCommandCompletesAtAcceptance : Obligations.IllegalCommandCompletesAtAcceptance := by
  intro s w e hidle he
  exact (writeReg_cmd_of_idle hidle).trans (accept_error he s)

/-- Settles O10: a busy engine rejects the word. -/
theorem busyEngineDropsCommands : Obligations.BusyEngineDropsCommands := by
  intro s w hbusy
  exact writeReg_cmd_of_busy hbusy

/-- Settles O13: the clamp of the interval, unchanged by widening it to the host's 64 bits. -/
theorem effectiveIntervalIsClamped : Obligations.EffectiveIntervalIsClamped := by
  intro s
  calc (readReg s 24).toNat
    _ = (effIntervalUs s).toNat := BitVec.toNat_setWidth_of_le (by decide)
    _ = min (max s.pollIntervalUs.toNat 1000) 2000000 := effIntervalUs_toNat s

end Sys2Proof.Proofs
end

section
/-! Every command completes (60 R366, 43 R305): a Transport command in its one step, a poll cycle because each step makes an
attempt fewer possible or moves to a later block. -/

namespace Sys2Proof.Machine

/-! Completion, and the transactions of one step. -/

/-- The command that ran to `t` has completed (60 R366). -/
def Completed (t : State) : Prop := t.busy = false ∧ t.status.done = true

theorem complete_completed (c : Cause) (s : State) : Completed (complete c s) := ⟨rfl, rfl⟩

theorem connectBody_completed (g : LinkCfg) (s : State) : Completed (connectBody g s) := by
  rcases connectBody_cases g s with ⟨-, h⟩ | ⟨-, -, h⟩ | ⟨-, -, -, ⟨-, h⟩ | ⟨-, h⟩ | ⟨-, h⟩⟩ <;> rw [h] <;>
    exact complete_completed _ _

theorem readRegsBody_completed (n : BitVec 8) (a : Word) (s : State) : Completed (readRegsBody n a s) := by
  rcases readRegsBody_cases n a s with ⟨-, h⟩ | ⟨-, -, h⟩ | ⟨-, -, ⟨ws, -, -, h⟩ | ⟨-, h⟩⟩ <;> rw [h] <;>
    exact complete_completed _ _

theorem writeRegBody_completed (a v : Word) (s : State) : Completed (writeRegBody a v s) := by
  rcases writeRegBody_cases a v s with ⟨-, h⟩ | ⟨-, -, h⟩ | ⟨-, -, h⟩ <;> rw [h] <;> exact complete_completed _ _

theorem teardownBody_completed (s : State) : Completed (teardownBody s) := by
  rcases teardownBody_cases s with ⟨-, h⟩ | ⟨-, h⟩ <;> rw [h] <;> exact complete_completed _ _

/-- Each command of the Transport is one step (70 R430). -/
theorem body_completed {i : Instr} (hi : i ≠ .pollCycle) (s : State) : Completed (body i s) := by
  cases i with
  | connect b sl v => exact connectBody_completed _ s
  | readRegs n a => exact readRegsBody_completed n a s
  | writeReg a v => exact writeRegBody_completed a v s
  | pollCycle => exact absurd rfl hi
  | teardown => exact teardownBody_completed s

theorem XferFollows.sent_length_le {s t : State} (h : XferFollows s t) :
    t.env.sent.length ≤ s.env.sent.length + 1 := by
  rcases h with ⟨hsent, -⟩ | ⟨req, hsent, -⟩ <;> simp [hsent]

/-! What a poll cycle has left to do (43 R305). -/

/-- A bound of the steps of a cycle before its completing one: the attempts left of this block and of the blocks after it,
where the error path's attempts outnumber the alarm-clear step. -/
def stepsBeforeEnd (q : Seq) : Nat :=
  match q.blk with
  | .speed => 20 - q.att
  | .torque => 15 - q.att
  | .io => 10 - q.att
  | .err => 5 - q.att
  | .alarm => 1
  | .finish => 0

theorem stepsBeforeEnd_le (q : Seq) : stepsBeforeEnd q ≤ 20 := by
  unfold stepsBeforeEnd
  split <;> omega

theorem isDataBlock_of_ne {b : Blk} (halarm : b ≠ .alarm) (hfinish : b ≠ .finish) : Claims.isDataBlock b := by
  cases b with
  | alarm => exact absurd rfl halarm
  | finish => exact absurd rfl hfinish
  | speed | torque | io | err => simp [Claims.isDataBlock]

/-- The sequencer of a cycle goes from `q` to `r` without completing, and has less left to do (43 R305). -/
def Advances (q r : Seq) : Prop := r.phase = q.phase ∧ stepsBeforeEnd r < stepsBeforeEnd q

section
variable {s : State}

/-- A store goes to a later block, whose attempts are all left. -/
theorem storeBlock_advances (w : List Word) (hb : Claims.isDataBlock s.seq.blk) (hatt : s.seq.att < 5) :
    Advances s.seq (storeBlock s.seq.blk w s).seq := by
  obtain ⟨hphase, -⟩ := storeBlock_phase_cur s.seq.blk w s
  refine ⟨hphase, ?_⟩
  cases hblk : s.seq.blk with
  | speed | torque | err => simp only [storeBlock, stepsBeforeEnd, goto_seq, hblk]; omega
  | io =>
    rcases evaluateAlarm_cases (storeIo w s) with ⟨-, h⟩ | ⟨-, h⟩ <;>
      simp only [storeBlock, h, stepsBeforeEnd, goto_seq, hblk] <;> omega
  | alarm | finish => simp [Claims.isDataBlock, hblk] at hb

/-- A failure leaves one attempt less of its block, the fifth none (43 R295). -/
theorem failAttempt_advances (hb : Claims.isDataBlock s.seq.blk) (hatt : s.seq.att < 5) :
    Advances s.seq (failAttempt s.seq.blk (s.seq.att + 1) s).seq := by
  rcases failAttempt_cases s.seq.blk (s.seq.att + 1) s with ⟨-, h⟩ | ⟨-, h⟩ <;> rw [h] <;> refine ⟨rfl, ?_⟩
  · rcases hb with hblk | hblk | hblk | hblk <;>
      simp only [stepsBeforeEnd, State.setSeq_seq, countFailure_seq, hblk] <;> omega
  · rcases hb with hblk | hblk | hblk | hblk <;> simp only [stepsBeforeEnd, afterExhausted, goto_seq, hblk] <;> omega

/-- Counting the attempt and reading move nothing of the sequencer, so the store and the failure start where `s` is. -/
theorem attemptBlock_advances (hb : Claims.isDataBlock s.seq.blk) (hatt : s.seq.att < 5) :
    Advances s.seq (attemptBlock s.seq.blk s).seq := by
  have hread (a : Word) (n : Nat) :
      (readRegisters (s.setCycle (setAttempts s.seq.blk (s.seq.att + 1) s.cycle)) a n).seq = s.seq := by simp
  rcases attemptBlock_cases s.seq.blk s with ⟨-, h⟩ | ⟨-, h⟩ <;> rw [h] <;>
    generalize hu : readRegisters _ _ _ = u <;> have hseq : u.seq = s.seq := hu ▸ hread _ _
  · rw [← hseq] at hb hatt ⊢
    exact storeBlock_advances _ hb hatt
  · rw [← hseq] at hb hatt ⊢
    exact failAttempt_advances hb hatt

/-- A step of a cycle completes it or brings it nearer to its end. -/
theorem pollStep_completes_or_advances (hatt : s.seq.att < 5) :
    (∃ c, pollStep s = complete c s) ∨ Advances s.seq (pollStep s).seq := by
  rcases pollStep_cases s with ⟨-, -, h⟩ | ⟨-, ⟨hblk, h⟩ | ⟨-, h⟩ | ⟨halarm, hfinish, h⟩⟩
  · exact .inl ⟨_, h⟩
  · have hseq : (alarmClearPath s).seq = s.seq := by
      rcases alarmClearPath_cases s with ⟨-, ha⟩ | ⟨-, ha⟩ <;> rw [ha] <;> rfl
    refine .inr ?_
    simp [h, Advances, stepsBeforeEnd, hseq, hblk]
  · exact .inl ⟨_, h⟩
  · exact .inr (h ▸ attemptBlock_advances (isDataBlock_of_ne halarm hfinish) hatt)

end

/-! The run of the engine alone to the end of the command. -/

/-- The engine alone ends the running command within `k` steps, with at most `n` transactions, in a state that meets the
invariant. -/
def EndsWithin (k n : Nat) (s : State) : Prop :=
  ∃ m t, m ≤ k ∧ engineRun m s = .next t ∧ t.busy = false ∧ t.status.done = true ∧ t.Inv ∧
    t.env.sent.length ≤ s.env.sent.length + n

section
variable {k n : Nat} {s t : State}

theorem endsWithin_of_completed (hstep : engineStep s = .next t) (h : s.Inv) (ht : Completed t) (hk : 1 ≤ k)
    (hsent : t.env.sent.length ≤ s.env.sent.length + n) : EndsWithin k n s := by
  obtain ⟨hidle, hdone⟩ := ht
  exact ⟨1, t, hk, engineRun_succ hstep, hidle, hdone, engineStep_keeps_inv h hstep, hsent⟩

theorem endsWithin_succ (hstep : engineStep s = .next t) (hsent : t.env.sent.length ≤ s.env.sent.length + 1)
    (h : EndsWithin k n t) : EndsWithin (k + 1) (n + 1) s := by
  obtain ⟨m, u, hm, hrun, hidle, hdone, hinv, hlen⟩ := h
  exact ⟨m + 1, u, Nat.succ_le_succ hm, (engineRun_succ hstep).trans hrun, hidle, hdone, hinv, by omega⟩

theorem engineStep_of_cycle (h : s.Inv) (hphase : s.seq.phase = .cycle) : engineStep s = .next (pollStep s) := by
  have hbusy : s.busy = true := (busy_eq_true_iff s).mpr (by simp [hphase])
  obtain ⟨i, hi, hof⟩ := exists_running_command h hbusy
  obtain rfl : i = .pollCycle := (phaseOf_eq_cycle_iff i).mp (hof.symm.trans hphase)
  exact engineStep_of_running hbusy hi

end

/-- The completing step sends nothing, each step before it at most one frame. -/
theorem endsWithin_of_cycle {n : Nat} {s : State} (h : s.Inv) (hphase : s.seq.phase = .cycle)
    (hn : stepsBeforeEnd s.seq ≤ n) : EndsWithin (n + 1) n s := by
  have hstep := engineStep_of_cycle h hphase
  obtain ⟨-, hatt, -⟩ := h.seq
  rcases pollStep_completes_or_advances hatt with ⟨c, hdone⟩ | ⟨hsame, hless⟩
  · rw [hdone] at hstep
    exact endsWithin_of_completed hstep h (complete_completed c s) (Nat.le_add_left 1 n) (Nat.le_add_right _ n)
  · cases n with
    | zero => exact absurd (hless.trans_le hn) (Nat.not_lt_zero _)
    | succ n =>
      exact endsWithin_succ hstep (pollStep_xferFollows s).sent_length_le
        (endsWithin_of_cycle (pollStep_keeps_inv h hphase) (hsame.trans hphase)
          (Nat.le_of_lt_succ (hless.trans_le hn)))
termination_by n

end Sys2Proof.Machine

namespace Sys2Proof.Proofs

open Sys2Proof.Machine

/-- Settles O22: a Transport command completes in one step with at most one transaction, a poll cycle by the steps before
its end. -/
theorem everyCommandCompletes : Obligations.EveryCommandCompletes := by
  intro s h hbusy
  obtain ⟨i, hi, hphase⟩ := exists_running_command h hbusy
  have hstep : engineStep s = .next (body i s) := (engineStep_of_running hbusy hi).trans (exec_eq i s)
  by_cases hpoll : i = .pollCycle
  · exact endsWithin_of_cycle h (hphase.trans ((phaseOf_eq_cycle_iff i).mpr hpoll)) (stepsBeforeEnd_le s.seq)
  · have hsent := (body_xferFollows i s).sent_length_le
    exact endsWithin_of_completed hstep h (body_completed hpoll s) (by decide) (hsent.trans (by omega))

end Sys2Proof.Proofs
end

section
/-! The platform (60 R395, 10 R30): its step by the number it is given. -/

namespace Sys2Proof.Machine

/-- Everything a platform step can do: nothing where no state has the number, else that state's own step. -/
theorem platformStep_cases {k : Nat} {p q : List State} (h : platformStep k p = .next q) :
    (p[k]? = none ∧ q = p) ∨ (∃ s t, p[k]? = some s ∧ step s = .next t ∧ q = p.set k t) := by
  unfold platformStep at h
  split at h
  · next hk =>
    injection h with h
    exact .inl ⟨hk, h.symm⟩
  · next s hk =>
    split at h
    · next t ht =>
      injection h with h
      exact .inr ⟨s, t, hk, ht, h.symm⟩
    · cases h
    · cases h

end Sys2Proof.Machine

namespace Sys2Proof.Proofs

open Sys2Proof.Machine

/-- Settles O60: a platform step replaces the one state it names, by that state's own next one. -/
theorem instancesShareNothing : Obligations.InstancesShareNothing := by
  intro p q k h
  rcases platformStep_cases h with ⟨hk, rfl⟩ | ⟨s, t, hk, hstep, rfl⟩
  · exact ⟨rfl, fun _ _ => rfl, fun s hs => by simp [hk] at hs⟩
  · obtain ⟨hlt, -⟩ := List.getElem?_eq_some_iff.mp hk
    refine ⟨List.length_set, fun j hj => List.getElem?_set_ne hj.symm, fun u hu => ⟨t, ?_, ?_⟩⟩
    · obtain rfl : s = u := by simpa [hk] using hu
      exact hstep
    · exact List.getElem?_set_self hlt

end Sys2Proof.Proofs
end

section
/-! Reset and the parameters (70 R410 to R413, 00 R9). -/

namespace Sys2Proof.Machine

/-! No step changes a parameter (70 R413). A step of POLL_CYCLE and a write of the host keep every register of the Transport,
the parameters among them; the commands of the Transport write some of those registers, but no parameter. -/

theorem connectBody_params (g : LinkCfg) (s : State) : (connectBody g s).params = s.params := by
  rcases connectBody_cases g s with ⟨-, h⟩ | ⟨-, -, h⟩ | ⟨-, -, -, ⟨-, h⟩ | ⟨-, h⟩ | ⟨-, h⟩⟩ <;> rw [h] <;> rfl

theorem readRegsBody_params (n : BitVec 8) (a : Word) (s : State) : (readRegsBody n a s).params = s.params := by
  rcases readRegsBody_cases n a s with ⟨-, h⟩ | ⟨-, -, h⟩ | ⟨-, -, ⟨ws, -, -, h⟩ | ⟨-, h⟩⟩ <;> rw [h] <;> rfl

theorem writeRegBody_params (a v : Word) (s : State) : (writeRegBody a v s).params = s.params := by
  rcases writeRegBody_cases a v s with ⟨-, h⟩ | ⟨-, -, h⟩ | ⟨-, -, h⟩ <;> rw [h] <;> rfl

theorem teardownBody_params (s : State) : (teardownBody s).params = s.params := by
  rcases teardownBody_cases s with ⟨-, h⟩ | ⟨-, h⟩ <;> rw [h] <;> rfl

theorem body_params (i : Instr) (s : State) : (body i s).params = s.params := by
  cases i with
  | connect b sl v => exact connectBody_params _ s
  | readRegs n a => exact readRegsBody_params n a s
  | writeReg a v => exact writeRegBody_params a v s
  | pollCycle => exact (pollStep_sameTransport s).params_eq
  | teardown => exact teardownBody_params s

theorem engineStep_params {s t : State} (h : engineStep s = .next t) : t.params = s.params := by
  rcases engineStep_cases h with ⟨-, rfl⟩ | ⟨-, i, -, rfl⟩
  · rfl
  · exact body_params i s

theorem step_params {s t : State} (h : step s = .next t) : t.params = s.params := by
  rcases step_cases h with ⟨u, hu, heng⟩ | ⟨-, rest, -, rfl⟩ | ⟨n, v, rest, -, rfl⟩ | ⟨rest, -, rfl⟩
  · have hparams : u.params = s.params := by
      rcases hu with rfl | ⟨rest, rfl⟩ <;> rfl
    exact (engineStep_params heng).trans hparams
  · rfl
  · exact (writeReg_sameTransport n v (s.withAgenda rest)).params_eq
  · rfl

/-! What the host reads after a reset (70 R411). An image whose fields are all 0 is 0. -/

@[simp] theorem fieldAt_zero (w lo n : Nat) : fieldAt w lo 0#n = 0#w := by simp [fieldAt]

@[simp] theorem bitAt_false (w lo : Nat) : bitAt w lo false = 0#w := fieldAt_zero w lo 1

theorem linkcfgImage_zero : linkcfgImage ⟨0, 0, false⟩ = 0 := by simp [linkcfgImage]

theorem cycleImage_zero : cycleImage CycleResult.zero = 0 := by
  simp [cycleImage, CycleResult.zero]

theorem validImage_zero : validImage ⟨false, false, false, false, false⟩ = 0 := by simp [validImage]

section
variable (p : Params) (env : Env)

theorem resWord_resetWith (i : Nat) : resWord (State.resetWith p env) i = 0 := by
  rw [resWord, State.resetWith_res, wordAt, List.getD_eq_getElem?_getD, List.getElem?_replicate]
  split <;> rfl

/-- POLL_INTERVAL_US is 0 after a reset, below POLL_MIN_US (60 R392). -/
theorem effIntervalUs_resetWith : effIntervalUs (State.resetWith p env) = 1000 := rfl

/-- The codes of both causes OK are 0 (60 R364, R365). -/
theorem statusImage_resetWith : statusImage (State.resetWith p env) = 0 := by
  simp [statusImage, causeCode, xferCauseCode]

/-- The named registers before EFF_INTERVAL_US: CMD, STATUS, LINKCFG, RES_LEN, CYCLE_RESULT and VALID in this order, of
which four read an image; after them the sample and the counters, of which FAULT_STATE reads `Clear`. -/
theorem readReg_resetWith_of_lt {n : Nat} (h : n < 24) : readReg (State.resetWith p env) n = 0 := by
  interval_cases n
  · rfl
  · exact congrArg (BitVec.setWidth 64) (statusImage_resetWith p env)
  · exact congrArg (BitVec.setWidth 64) linkcfgImage_zero
  · rfl
  · exact congrArg (BitVec.setWidth 64) cycleImage_zero
  · exact congrArg (BitVec.setWidth 64) validImage_zero
  all_goals rfl

/-- The registers of RES, and the numbers without a register. -/
theorem readReg_resetWith_of_gt {n : Nat} (h : 24 < n) : readReg (State.resetWith p env) n = 0 := by
  rw [readReg_of_ge _ h, resWord_resetWith]
  exact ite_self 0

theorem readReg_resetWith (n : Nat) : readReg (State.resetWith p env) n = if n = 24 then 1000 else 0 := by
  rcases Nat.lt_trichotomy n 24 with h | rfl | h
  · rw [if_neg h.ne, readReg_resetWith_of_lt p env h]
  · exact congrArg (BitVec.setWidth 64) (effIntervalUs_resetWith p env)
  · rw [if_neg h.ne', readReg_resetWith_of_gt p env h]

end

/-! The invariant after a reset: no bit of VALID is set over the all-zero sample, no link is open, no command runs. -/

theorem validInv_zero (v : Valid) : validInv v Sample.zero :=
  ⟨fun _ => ⟨rfl, rfl, rfl⟩, fun _ => ⟨rfl, rfl, rfl⟩, fun _ => ⟨rfl, rfl⟩, fun _ => rfl⟩

/-- Legal parameters are all the invariant asks for; `resetNow_keeps_inv` takes them from the state before. -/
theorem resetWith_inv {p : Params} (env : Env) (hp : p.wf = true) : (State.resetWith p env).Inv where
  params := hp
  res := List.length_replicate
  resLen := Nat.zero_le _
  valid := validInv_zero _
  aux := ⟨rfl, rfl, rfl, rfl, rfl⟩
  cycle := cycleInv_zero
  fault := nofun
  link := nofun
  seq := ⟨rfl, Nat.zero_lt_succ 4, nofun, nofun, nofun⟩
  notify := ⟨rfl, rfl, nofun⟩

/-- MAX_BLOCK is not an OPEN parameter: the default 125 is legal (00 R9). -/
theorem config_params_wf : Config.params.wf = true := rfl

end Sys2Proof.Machine

namespace Sys2Proof.Proofs

open Sys2Proof.Machine

/-- Settles O18: each of the step's cases keeps the parameters, the reset by its definition. -/
theorem parametersAreFixed : Obligations.ParametersAreFixed := by
  intro s t h
  exact step_params h

/-- Settles O16: the registers by the ranges of their numbers, the hidden state by the definition of the reset. -/
theorem resetValuesAreTheSpecs : Obligations.ResetValuesAreTheSpecs := by
  intro p env
  exact ⟨readReg_resetWith p env, rfl, rfl, rfl, rfl⟩

/-- Settles O17: a reset is the reset state for the parameters it finds, which O16 describes. -/
theorem resetRestoresEverything : Obligations.ResetRestoresEverything := by
  intro s
  obtain ⟨hregs, hlink, hseq, htrace, hfault⟩ := resetValuesAreTheSpecs s.params s.env.afterReset
  exact ⟨hregs, hlink, hseq, htrace, hfault, rfl⟩

/-- Settles O19: legal parameters suffice, and those of `State.reset` are legal. -/
theorem resetMeetsTheInvariant : Obligations.ResetMeetsTheInvariant :=
  ⟨resetWith_inv _ config_params_wf, fun _ env hp => resetWith_inv env hp⟩

end Sys2Proof.Proofs
end
